-- ==== Sys2Proof/Word.lean ====
section
/-! DEFINITION. The plain words and containers of the model: bytes and wire words, the two sides of the
machine, the fixed collections (two sides, four slots, eight channels, six switches, eight hold reasons,
twenty notice classes), each with a read and a write of one member. -/

namespace Sys2Proof

abbrev Byte := BitVec 8

/-- One of the eight analogue channels, 0 to 7 (file 02 section 2.1). -/
abbrev Channel := Fin 8

/-- LEFT and RIGHT (file 00 section 4.2). -/
inductive Side where
  | left | right
  deriving DecidableEq, Repr

/-- The other side of the machine. -/
def Side.other : Side → Side
  | .left => .right
  | .right => .left

/-- One value for each side. -/
structure Sides (α : Type) where
  left : α
  right : α
  deriving DecidableEq, Repr

def Sides.get {α : Type} (p : Sides α) : Side → α
  | .left => p.left
  | .right => p.right

def Sides.set {α : Type} (p : Sides α) (d : Side) (v : α) : Sides α :=
  match d with
  | .left => { p with left := v }
  | .right => { p with right := v }

/-- Four slots, as a GEOMETRY group's channel list is sent (file 11 Table 11.1, Note). -/
structure Quad (α : Type) where
  s0 : α
  s1 : α
  s2 : α
  s3 : α
  deriving DecidableEq, Repr

def Quad.toList {α : Type} (q : Quad α) : List α := [q.s0, q.s1, q.s2, q.s3]

/-- Eight values, one for each channel or for each slot of the scan list. -/
structure Octet (α : Type) where
  c0 : α
  c1 : α
  c2 : α
  c3 : α
  c4 : α
  c5 : α
  c6 : α
  c7 : α
  deriving DecidableEq, Repr

def Octet.toList {α : Type} (o : Octet α) : List α := [o.c0, o.c1, o.c2, o.c3, o.c4, o.c5, o.c6, o.c7]

def Octet.get {α : Type} (o : Octet α) (c : Channel) : α :=
  match c with
  | 0 => o.c0
  | 1 => o.c1
  | 2 => o.c2
  | 3 => o.c3
  | 4 => o.c4
  | 5 => o.c5
  | 6 => o.c6
  | 7 => o.c7

def Octet.set {α : Type} (o : Octet α) (c : Channel) (v : α) : Octet α :=
  match c with
  | 0 => { o with c0 := v }
  | 1 => { o with c1 := v }
  | 2 => { o with c2 := v }
  | 3 => { o with c3 := v }
  | 4 => { o with c4 := v }
  | 5 => { o with c5 := v }
  | 6 => { o with c6 := v }
  | 7 => { o with c7 := v }

def Octet.map {α β : Type} (f : α → β) (o : Octet α) : Octet β :=
  ⟨f o.c0, f o.c1, f o.c2, f o.c3, f o.c4, f o.c5, f o.c6, f o.c7⟩

def Octet.fill {α : Type} (v : α) : Octet α := ⟨v, v, v, v, v, v, v, v⟩

/-- The channels in order. -/
def allChannels : List Channel := [0, 1, 2, 3, 4, 5, 6, 7]

/-- The six contact inputs (file 08 Table 8.1). -/
inductive SwitchInput where
  | presence | leftUpper | leftLower | rightUpper | rightLower | stopSense
  deriving DecidableEq, Repr

/-- One value for each contact input. -/
structure PerInput (α : Type) where
  presence : α
  leftUpper : α
  leftLower : α
  rightUpper : α
  rightLower : α
  stopSense : α
  deriving DecidableEq, Repr

def PerInput.get {α : Type} (p : PerInput α) : SwitchInput → α
  | .presence => p.presence
  | .leftUpper => p.leftUpper
  | .leftLower => p.leftLower
  | .rightUpper => p.rightUpper
  | .rightLower => p.rightLower
  | .stopSense => p.stopSense

def PerInput.set {α : Type} (p : PerInput α) (k : SwitchInput) (v : α) : PerInput α :=
  match k with
  | .presence => { p with presence := v }
  | .leftUpper => { p with leftUpper := v }
  | .leftLower => { p with leftLower := v }
  | .rightUpper => { p with rightUpper := v }
  | .rightLower => { p with rightLower := v }
  | .stopSense => { p with stopSense := v }

def PerInput.fill {α : Type} (v : α) : PerInput α :=
  ⟨v, v, v, v, v, v⟩

/-- The inputs in the order of Table 8.1. -/
def SwitchInput.all : List SwitchInput :=
  [.presence, .leftUpper, .leftLower, .rightUpper, .rightLower, .stopSense]

/-- The eight hold reasons in the order of file 08 Table 8.4. -/
inductive HoldReason where
  | supply | stopSense | breach | reference | housing | programEnd | ramp | startup
  deriving DecidableEq, Repr

/-- One value for each hold reason. -/
structure PerReason (α : Type) where
  supply : α
  stopSense : α
  breach : α
  reference : α
  housing : α
  programEnd : α
  ramp : α
  startup : α
  deriving DecidableEq, Repr

def PerReason.get {α : Type} (p : PerReason α) : HoldReason → α
  | .supply => p.supply
  | .stopSense => p.stopSense
  | .breach => p.breach
  | .reference => p.reference
  | .housing => p.housing
  | .programEnd => p.programEnd
  | .ramp => p.ramp
  | .startup => p.startup

def PerReason.set {α : Type} (p : PerReason α) (k : HoldReason) (v : α) : PerReason α :=
  match k with
  | .supply => { p with supply := v }
  | .stopSense => { p with stopSense := v }
  | .breach => { p with breach := v }
  | .reference => { p with reference := v }
  | .housing => { p with housing := v }
  | .programEnd => { p with programEnd := v }
  | .ramp => { p with ramp := v }
  | .startup => { p with startup := v }

def PerReason.fill {α : Type} (v : α) : PerReason α :=
  ⟨v, v, v, v, v, v, v, v⟩

/-- The reasons in the order of Table 8.4. -/
def HoldReason.all : List HoldReason :=
  [.supply, .stopSense, .breach, .reference, .housing, .programEnd, .ramp, .startup]

/-- The twenty notice classes in the order of file 09 Table 9.1. -/
inductive NoticeClass where
  | supplyLow | stopSense | obstacleBreach | referenceLost | beltStall | housingHigh | programEnd | obstacleUnsampled | rampLimited | programLow | legLimit | channelFault | channelRecovered | programGap | scanOverrun | truckComplete | transferTimeout | setupDefaulted | segmentDone | referenceSwitched
  deriving DecidableEq, Repr

/-- One value for each notice class. -/
structure PerClass (α : Type) where
  supplyLow : α
  stopSense : α
  obstacleBreach : α
  referenceLost : α
  beltStall : α
  housingHigh : α
  programEnd : α
  obstacleUnsampled : α
  rampLimited : α
  programLow : α
  legLimit : α
  channelFault : α
  channelRecovered : α
  programGap : α
  scanOverrun : α
  truckComplete : α
  transferTimeout : α
  setupDefaulted : α
  segmentDone : α
  referenceSwitched : α
  deriving DecidableEq, Repr

def PerClass.get {α : Type} (p : PerClass α) : NoticeClass → α
  | .supplyLow => p.supplyLow
  | .stopSense => p.stopSense
  | .obstacleBreach => p.obstacleBreach
  | .referenceLost => p.referenceLost
  | .beltStall => p.beltStall
  | .housingHigh => p.housingHigh
  | .programEnd => p.programEnd
  | .obstacleUnsampled => p.obstacleUnsampled
  | .rampLimited => p.rampLimited
  | .programLow => p.programLow
  | .legLimit => p.legLimit
  | .channelFault => p.channelFault
  | .channelRecovered => p.channelRecovered
  | .programGap => p.programGap
  | .scanOverrun => p.scanOverrun
  | .truckComplete => p.truckComplete
  | .transferTimeout => p.transferTimeout
  | .setupDefaulted => p.setupDefaulted
  | .segmentDone => p.segmentDone
  | .referenceSwitched => p.referenceSwitched

def PerClass.set {α : Type} (p : PerClass α) (k : NoticeClass) (v : α) : PerClass α :=
  match k with
  | .supplyLow => { p with supplyLow := v }
  | .stopSense => { p with stopSense := v }
  | .obstacleBreach => { p with obstacleBreach := v }
  | .referenceLost => { p with referenceLost := v }
  | .beltStall => { p with beltStall := v }
  | .housingHigh => { p with housingHigh := v }
  | .programEnd => { p with programEnd := v }
  | .obstacleUnsampled => { p with obstacleUnsampled := v }
  | .rampLimited => { p with rampLimited := v }
  | .programLow => { p with programLow := v }
  | .legLimit => { p with legLimit := v }
  | .channelFault => { p with channelFault := v }
  | .channelRecovered => { p with channelRecovered := v }
  | .programGap => { p with programGap := v }
  | .scanOverrun => { p with scanOverrun := v }
  | .truckComplete => { p with truckComplete := v }
  | .transferTimeout => { p with transferTimeout := v }
  | .setupDefaulted => { p with setupDefaulted := v }
  | .segmentDone => { p with segmentDone := v }
  | .referenceSwitched => { p with referenceSwitched := v }

def PerClass.fill {α : Type} (v : α) : PerClass α :=
  ⟨v, v, v, v, v, v, v, v, v, v, v, v, v, v, v, v, v, v, v, v⟩

/-- The classes in the order of their numbers, 1 to 20 (Table 9.1). -/
def NoticeClass.all : List NoticeClass :=
  [.supplyLow, .stopSense, .obstacleBreach, .referenceLost, .beltStall,
   .housingHigh, .programEnd, .obstacleUnsampled, .rampLimited, .programLow,
   .legLimit, .channelFault, .channelRecovered, .programGap, .scanOverrun,
   .truckComplete, .transferTimeout, .setupDefaulted, .segmentDone, .referenceSwitched]

end Sys2Proof
end

