-- ==== Sys2Proof/Syntax.lean ====
section
/-! DEFINITION. The commands: one constructor of `Instr` for each row of spec/opcode_table.json, in the
table's order. A request row carries the frame's tag and the fields of its body as they stand on the wire
(file 10 Tables 10.7 to 10.9, file 11 Table 11.1); an event row carries what the sending block hands over;
a pin or timer row carries what the pins show. -/

namespace Sys2Proof

/-- What issued a trigger (file 01 R12, file 02 R25). -/
inductive TriggerKind where
  | distance | standstill | interval
  deriving DecidableEq, Repr

/-- Sides contributing to a step's volume depth (file 05 R111). -/
inductive DepthKind where
  | both | one | noDepth
  deriving DecidableEq, Repr

/-- The cut report of a control step (file 05 R111). -/
structure CutReport where
  sequence : Nat
  station : Nat
  travel : Int
  kind : DepthKind
  depth : Nat
  bank : Nat
  loose : Nat
  rate : Nat
  deriving DecidableEq, Repr

/-- A segment record on the wire (file 10 Table 10.8). -/
structure SegmentWire where
  id : BitVec 16
  start : BitVec 24
  length : BitVec 24
  depth : BitVec 16
  grade : BitVec 16
  slope : BitVec 16
  flags : Byte
  deriving DecidableEq, Repr

/-- An obstacle entry as Add Obstacle carries it (file 10 Table 10.9). -/
structure ObstacleWire where
  id : Byte
  start : BitVec 24
  length : BitVec 16
  cap : BitVec 16
  q : Byte
  mask : Byte
  tolerance : Byte
  flags : Byte
  deriving DecidableEq, Repr

/-- The GEOMETRY group on the wire, 19 bytes (file 11 Table 11.1). -/
structure GeometryWire where
  width : BitVec 16
  refSide : Byte
  refMode : Byte
  farMode : Byte
  refCount : Byte
  refSlots : Quad Byte
  farCount : Byte
  farSlots : Quad Byte
  slopeChannel : Byte
  pulses : BitVec 16
  sense : Byte
  deriving DecidableEq, Repr

/-- A CHANNEL group on the wire, 11 bytes. -/
structure ChannelWire where
  kind : Byte
  gain : BitVec 16
  offset : BitVec 16
  span : BitVec 16
  mount : BitVec 16
  spike : BitVec 16
  deriving DecidableEq, Repr

/-- The CONTROL group on the wire, 11 bytes. -/
structure ControlWire where
  defaultSlope : BitVec 16
  lowWater : Byte
  lookahead : BitVec 16
  tolerance : Byte
  deadband : Byte
  gain : Byte
  slew : BitVec 16
  swell : Byte
  deriving DecidableEq, Repr

/-- One leg's settings on the wire, 6 bytes; the LEG group is LEFT then RIGHT. -/
structure LegWire where
  start : BitVec 16
  maximum : BitVec 16
  rate : BitVec 16
  deriving DecidableEq, Repr

/-- The SCAN group on the wire, 18 bytes. -/
structure ScanWire where
  mode : Byte
  count : Byte
  slots : Octet Byte
  prescaler : Byte
  period : Byte
  settle : BitVec 16
  park : Byte
  distance : Byte
  standstillPeriod : BitVec 16
  deriving DecidableEq, Repr

/-- The CONVEYOR group on the wire, 12 bytes. -/
structure ConveyorWire where
  capacity : Byte
  beltMin : Byte
  purge : Byte
  topOff : Byte
  housingLimit : BitVec 16
  pickup : BitVec 16
  start : BitVec 16
  maximum : BitVec 16
  deriving DecidableEq, Repr

/-- The TRUCK group on the wire, 5 bytes. -/
structure TruckWire where
  target : BitVec 16
  margin : BitVec 16
  settle : Byte
  deriving DecidableEq, Repr

/-- The LIMITS group on the wire, 4 bytes. -/
structure LimitsWire where
  filter : Byte
  maxSpeed : BitVec 16
  pair : Byte
  deriving DecidableEq, Repr

/-- The commands of the block, one for each row of the opcode table. -/
inductive Instr where
  /-- Power-on, reset line or supply below 7.5 V; the phase levels are those present when the reset ends (R187, R2). -/
  | fullReset (a b : Bool)
  | setupLoad
  | startupSettleExpiry
  /-- The encoder's phase levels, held for the minimum dwell (R1, R2). -/
  | encoderEdge (a b : Bool)
  | speedIntervalEnd
  | standstillTimerExpiry
  | standstillTriggerTimerExpiry
  | setStation (tag : Byte) (station : BitVec 24)
  | triggerTaken (kind : TriggerKind) (station : Nat)
  | standstillBeginEvent
  | standstillEndEvent
  | settleTimerExpiry
  | intervalTimerExpiry
  | parkTimerExpiry
  | noLegAutoReport
  /-- The conversions made at the ends of the scan's slots, by channel; only listed channels are read (R24). -/
  | scanEnd (raw : Octet (BitVec 12))
  | legCommand (d : Side) (u : Int)
  | referenceLostRequest (d : Side)
  | noTargetRequest (d : Side)
  | targetLost
  | leftAutoReport (d : Side)
  | leftHoldReport (d : Side)
  | breachMark (id : Nat) (d : Side) (depth : Int) (bound : Nat)
  | cutReport (r : CutReport)
  | clearRemainder
  | reasonAdd (r : HoldReason) (cap : Nat)
  | reasonWithdraw (r : HoldReason)
  | programEndAhead
  | startScan (tag : Byte)
  | stopScan (tag : Byte)
  | singleScan (tag : Byte)
  | singlePassEnd (raw : Octet (BitVec 12))
  | readChannels (tag : Byte)
  | loadSegments (tag : Byte) (count : Byte)
  | segmentRecord (tag : Byte) (r : SegmentWire)
  | itemTimerExpiry
  | abortTransfer (tag : Byte)
  | cutProgram (tag : Byte) (c : BitVec 24)
  | clearProgram (tag : Byte)
  | querySegment (tag : Byte) (id : BitVec 16)
  | locateByStation (tag : Byte) (x : BitVec 24)
  | locateBySegment (tag : Byte) (id : BitVec 16) (offset : BitVec 24)
  | addObstacle (tag : Byte) (o : ObstacleWire)
  | removeObstacle (tag : Byte) (id : Byte)
  | listObstacles (tag : Byte) (index : Byte)
  | setTrim (tag : Byte) (presence : Byte) (left right : BitVec 16)
  | setLegMode (tag : Byte) (leg mode : Byte)
  | setLegModeAuto (tag : Byte) (leg : Byte)
  | jogLeg (tag : Byte) (leg direction : Byte) (permille duration : BitVec 16)
  | jogTimerExpiry (d : Side)
  /-- One sample of the six contacts; true: the contact, or the stop sense loop, is closed (Table 8.1). -/
  | switchSample (closed : PerInput Bool)
  | supplyMeasurement (millivolts : Nat)
  | beltPulse
  | beltInterval
  | truckSettleTimerExpiry
  | flashTimerExpiry
  | hornTimerExpiry
  | setBeltMode (tag : Byte) (mode : Byte) (percent : BitVec 16)
  | setTruckTarget (tag : Byte) (litres : BitVec 16)
  | truckDone (tag : Byte)
  | takeTruckRecord (tag : Byte)
  | clearTotals (tag : Byte)
  | readTotals (tag : Byte)
  | releaseHold (tag : Byte) (reason : Byte)
  | readStatus (tag : Byte)
  | peekStatus (tag : Byte)
  | byteReceived (b : Byte) (framingError : Bool)
  | unknownRequest (tag : Byte) (kind : Byte) (body : List Byte)
  | silenceTimerExpiry
  | transmitterIdle
  | identify (tag : Byte)
  | linkReset (tag : Byte)
  | writeSetupGeometry (tag : Byte) (g : GeometryWire)
  | writeSetupChannel (tag : Byte) (c : Channel) (g : ChannelWire)
  | writeSetupControl (tag : Byte) (g : ControlWire)
  | writeSetupLeg (tag : Byte) (g : Sides LegWire)
  | writeSetupScan (tag : Byte) (g : ScanWire)
  | writeSetupConveyor (tag : Byte) (g : ConveyorWire)
  | writeSetupTruck (tag : Byte) (g : TruckWire)
  | writeSetupLimits (tag : Byte) (g : LimitsWire)
  | writeSetupNotice (tag : Byte) (g : PerClass Byte)
  | writeSetupLink (tag : Byte) (baud : Byte)
  | readSetup (tag : Byte) (group : Byte)
  | storeSetup (tag : Byte)
  | storeTimerExpiry
  deriving DecidableEq, Repr

/-- A request as the Console Link hands it to the owning block, without its tag (file 10 Table 10.7).
Every request row of `Instr` is one of these; a frame of bytes is parsed into one (Decode.lean). -/
inductive Request where
  | setStation (station : BitVec 24)
  | startScan
  | stopScan
  | singleScan
  | readChannels
  | loadSegments (count : Byte)
  | segmentRecord (r : SegmentWire)
  | abortTransfer
  | cutProgram (c : BitVec 24)
  | clearProgram
  | querySegment (id : BitVec 16)
  | locateByStation (x : BitVec 24)
  | locateBySegment (id : BitVec 16) (offset : BitVec 24)
  | addObstacle (o : ObstacleWire)
  | removeObstacle (id : Byte)
  | listObstacles (index : Byte)
  | setTrim (presence : Byte) (left right : BitVec 16)
  | setLegMode (leg mode : Byte)
  | jogLeg (leg direction : Byte) (permille duration : BitVec 16)
  | setBeltMode (mode : Byte) (percent : BitVec 16)
  | setTruckTarget (litres : BitVec 16)
  | truckDone
  | takeTruckRecord
  | clearTotals
  | readTotals
  | releaseHold (reason : Byte)
  | readStatus
  | peekStatus
  | identify
  | linkReset
  | writeGeometry (g : GeometryWire)
  | writeChannel (c : Channel) (g : ChannelWire)
  | writeControl (g : ControlWire)
  | writeLeg (g : Sides LegWire)
  | writeScan (g : ScanWire)
  | writeConveyor (g : ConveyorWire)
  | writeTruck (g : TruckWire)
  | writeLimits (g : LimitsWire)
  | writeNotice (g : PerClass Byte)
  | writeLink (baud : Byte)
  /-- A Write Setup whose group byte lies above 16, with the bytes after it (file 10 R174). -/
  | writeNoGroup (group : Byte) (rest : List Byte)
  | readSetup (group : Byte)
  | storeSetup
  deriving DecidableEq, Repr

end Sys2Proof
end

