-- ==== Sys2Proof/WellFormed.lean ====
section
/-! DEFINITION. Which commands are well formed: an event carries only what its sender can hand over, and a
request row carries only a request of its own row. Requests with any field values are well formed, since
every value that fits the wire reaches the owning block, which checks it. -/

namespace Sys2Proof

/-- The highest station (file 01 Table 1.1). -/
def maxStation : Nat := 16777215

/-- The request kinds of file 10 Table 10.7. -/
def requestKinds : List Nat :=
  [0x01, 0x10, 0x11, 0x12, 0x13, 0x20, 0x21, 0x22, 0x23, 0x24, 0x25, 0x26, 0x27, 0x30, 0x31, 0x32, 0x41,
   0x50, 0x51, 0x60, 0x61, 0x62, 0x63, 0x64, 0x65, 0x70, 0x71, 0x72, 0x78, 0x79, 0x7A, 0x7B, 0x7C]

def isRequestKind (k : Byte) : Bool := requestKinds.contains k.toNat

/-- A cap that the owner of a reason gives it (Table 8.4): RAMP floor(rate / Q), at least 1 and at most 500;
every other reason 0. -/
def HoldReason.capOk (r : HoldReason) (cap : Nat) : Bool :=
  match r with
  | .ramp => decide (1 ≤ cap ∧ cap ≤ 500)
  | _ => cap == 0

/-- A report the Grade Computation can make (R108 to R111): a station and a depth in range, a depth only
with a side that contributes, and no volume or rate without a depth. -/
def CutReport.wf (r : CutReport) : Bool :=
  decide (r.sequence ≤ 65535) && decide (r.station ≤ maxStation) &&
  decide (-(maxStation : Int) ≤ r.travel ∧ r.travel ≤ maxStation) &&
  decide (r.depth ≤ 7000) &&
  match r.kind with
  | .noDepth => r.depth == 0 && r.bank == 0 && r.loose == 0 && r.rate == 0
  | _ => true

/-- Well-formed commands. -/
def Instr.wf : Instr → Bool
  | .triggerTaken kind station => kind != .interval && decide (station ≤ maxStation)
  | .legCommand _ u => decide (-1000 ≤ u ∧ u ≤ 1000)
  | .breachMark id _ depth bound =>
      decide (1 ≤ id ∧ id ≤ 255) && decide (-5000 ≤ depth ∧ depth ≤ 7000) && decide (bound ≤ 3700)
  | .cutReport r => r.wf
  | .reasonAdd r cap => r.capOk cap
  | .setLegMode _ _ mode => mode != 2#8
  | .unknownRequest _ kind body => !isRequestKind kind && decide (body.length ≤ 240)
  | _ => true

end Sys2Proof
end

