-- ==== Sys2Proof/Decode.lean ====
section
/-! DEFINITION. The wire: little-endian fields, the frame check, the request kinds and body lengths of
file 10 Table 10.7 and file 11 Table 11.1, and the two directions between a request and its frame body.
The opcode table gives no row any bits, so `decodeTableWord` reads none. -/

namespace Sys2Proof

/-- Byte n of a word, byte 0 the least significant (R171: multi-byte fields are little-endian). -/
def byteOf {w : Nat} (x : BitVec w) (n : Nat) : Byte := x.extractLsb' (8 * n) 8

/-- A 16-bit field from its bytes, low byte first (R171). -/
def u16 (b0 b1 : Byte) : BitVec 16 := b1 ++ b0

/-- A 24-bit field from its bytes, low byte first (R171). -/
def u24 (b0 b1 b2 : Byte) : BitVec 24 := b2 ++ (b1 ++ b0)

/-- The bytes of a 16-bit field, low byte first. -/
def bytes16 (x : BitVec 16) : List Byte := [byteOf x 0, byteOf x 1]

/-- The bytes of a 24-bit field, low byte first. -/
def bytes24 (x : BitVec 24) : List Byte := [byteOf x 0, byteOf x 1, byteOf x 2]

/-- The little-endian bytes of a number, in a field of the given size. -/
def leBytes : Nat → Nat → List Byte
  | 0, _ => []
  | n + 1, v => BitVec.ofNat 8 v :: leBytes n (v / 256)

/-! ## The check (R171) -/

/-- One bit of the CRC with polynomial 1021h, most significant bit first. -/
def crcBit (crc : BitVec 16) : BitVec 16 :=
  if crc.msb then (crc <<< 1) ^^^ 0x1021#16 else crc <<< 1

/-- One byte of the CRC. -/
def crcByte (crc : BitVec 16) (b : Byte) : BitVec 16 :=
  crcBit (crcBit (crcBit (crcBit (crcBit (crcBit (crcBit (crcBit (crc ^^^ (b ++ 0#8)))))))))

/-- The check over a run of bytes, initial value FFFFh, no final inversion (R171). -/
def crc16 (bytes : List Byte) : BitVec 16 := bytes.foldl crcByte 0xFFFF#16

/-- The bytes the check covers: length, kind, tag and body (R171). -/
def checkedBytes (kind tag : Byte) (body : List Byte) : List Byte :=
  BitVec.ofNat 8 body.length :: kind :: tag :: body

/-- A whole frame on the line (R171, Table 10.2). -/
def frameBytes (kind tag : Byte) (body : List Byte) : List Byte :=
  0xA5#8 :: checkedBytes kind tag body ++ bytes16 (crc16 (checkedBytes kind tag body))

/-! ## Kinds and lengths -/

/-- Body bytes after the group byte of Write Setup, by group number (Table 11.1). -/
def groupLength (group : Nat) : Nat :=
  match group with
  | 0 => 19
  | 9 => 11
  | 10 => 12
  | 11 => 18
  | 12 => 12
  | 13 => 5
  | 14 => 4
  | 15 => 20
  | 16 => 1
  | _ => 11

/-- The body length Table 10.7 gives a request kind other than Write Setup. -/
def kindLength (kind : Nat) : Nat :=
  match kind with
  | 0x01 => 3
  | 0x20 => 1
  | 0x21 => 15
  | 0x23 => 3
  | 0x25 => 2
  | 0x26 => 3
  | 0x27 => 5
  | 0x30 => 12
  | 0x31 => 1
  | 0x32 => 1
  | 0x41 => 5
  | 0x50 => 2
  | 0x51 => 6
  | 0x60 => 3
  | 0x61 => 2
  | 0x70 => 1
  | 0x7B => 1
  | _ => 0

/-- Check 4 of R174: the body has the length its kind (for Write Setup, its group byte) gives. An empty
Write Setup body fails it, and a group byte above 16 passes it whatever follows. -/
def lengthOk (kind : Byte) (body : List Byte) : Bool :=
  if kind = 0x7A#8 then
    match body with
    | [] => false
    | g :: rest => decide (16 < g.toNat) || rest.length == groupLength g.toNat
  else body.length == kindLength kind.toNat

/-! ## Bodies of the record requests -/

def SegmentWire.bytes (r : SegmentWire) : List Byte :=
  bytes16 r.id ++ bytes24 r.start ++ bytes24 r.length ++ bytes16 r.depth ++ bytes16 r.grade ++
    bytes16 r.slope ++ [r.flags]

def SegmentWire.ofBytes : List Byte → Option SegmentWire
  | [a, b, c, d, e, f, g, h, i, j, k, l, m, n, o] =>
    some { id := u16 a b, start := u24 c d e, length := u24 f g h, depth := u16 i j,
           grade := u16 k l, slope := u16 m n, flags := o }
  | _ => none

def ObstacleWire.bytes (o : ObstacleWire) : List Byte :=
  [o.id] ++ bytes24 o.start ++ bytes16 o.length ++ bytes16 o.cap ++ [o.q, o.mask, o.tolerance, o.flags]

def ObstacleWire.ofBytes : List Byte → Option ObstacleWire
  | [a, b, c, d, e, f, g, h, i, j, k, l] =>
    some { id := a, start := u24 b c d, length := u16 e f, cap := u16 g h, q := i, mask := j,
           tolerance := k, flags := l }
  | _ => none

def GeometryWire.bytes (g : GeometryWire) : List Byte :=
  bytes16 g.width ++ [g.refSide, g.refMode, g.farMode, g.refCount] ++ g.refSlots.toList ++ [g.farCount] ++
    g.farSlots.toList ++ [g.slopeChannel] ++ bytes16 g.pulses ++ [g.sense]

def GeometryWire.ofBytes : List Byte → Option GeometryWire
  | [a, b, c, d, e, f, g, h, i, j, k, l, m, n, o, p, q, r, s] =>
    some { width := u16 a b, refSide := c, refMode := d, farMode := e, refCount := f,
           refSlots := ⟨g, h, i, j⟩, farCount := k, farSlots := ⟨l, m, n, o⟩, slopeChannel := p,
           pulses := u16 q r, sense := s }
  | _ => none

def ChannelWire.bytes (g : ChannelWire) : List Byte :=
  [g.kind] ++ bytes16 g.gain ++ bytes16 g.offset ++ bytes16 g.span ++ bytes16 g.mount ++ bytes16 g.spike

def ChannelWire.ofBytes : List Byte → Option ChannelWire
  | [a, b, c, d, e, f, g, h, i, j, k] =>
    some { kind := a, gain := u16 b c, offset := u16 d e, span := u16 f g, mount := u16 h i,
           spike := u16 j k }
  | _ => none

def ControlWire.bytes (g : ControlWire) : List Byte :=
  bytes16 g.defaultSlope ++ [g.lowWater] ++ bytes16 g.lookahead ++ [g.tolerance, g.deadband, g.gain] ++
    bytes16 g.slew ++ [g.swell]

def ControlWire.ofBytes : List Byte → Option ControlWire
  | [a, b, c, d, e, f, g, h, i, j, k] =>
    some { defaultSlope := u16 a b, lowWater := c, lookahead := u16 d e, tolerance := f, deadband := g,
           gain := h, slew := u16 i j, swell := k }
  | _ => none

def LegWire.bytes (g : LegWire) : List Byte := bytes16 g.start ++ bytes16 g.maximum ++ bytes16 g.rate

def legGroupBytes (g : Sides LegWire) : List Byte := g.left.bytes ++ g.right.bytes

def legGroupOfBytes : List Byte → Option (Sides LegWire)
  | [a, b, c, d, e, f, g, h, i, j, k, l] =>
    some ⟨⟨u16 a b, u16 c d, u16 e f⟩, ⟨u16 g h, u16 i j, u16 k l⟩⟩
  | _ => none

def ScanWire.bytes (g : ScanWire) : List Byte :=
  [g.mode, g.count] ++ g.slots.toList ++ [g.prescaler, g.period] ++ bytes16 g.settle ++
    [g.park, g.distance] ++ bytes16 g.standstillPeriod

def ScanWire.ofBytes : List Byte → Option ScanWire
  | [a, b, c, d, e, f, g, h, i, j, k, l, m, n, o, p, q, r] =>
    some { mode := a, count := b, slots := ⟨c, d, e, f, g, h, i, j⟩, prescaler := k, period := l,
           settle := u16 m n, park := o, distance := p, standstillPeriod := u16 q r }
  | _ => none

def ConveyorWire.bytes (g : ConveyorWire) : List Byte :=
  [g.capacity, g.beltMin, g.purge, g.topOff] ++ bytes16 g.housingLimit ++ bytes16 g.pickup ++
    bytes16 g.start ++ bytes16 g.maximum

def ConveyorWire.ofBytes : List Byte → Option ConveyorWire
  | [a, b, c, d, e, f, g, h, i, j, k, l] =>
    some { capacity := a, beltMin := b, purge := c, topOff := d, housingLimit := u16 e f,
           pickup := u16 g h, start := u16 i j, maximum := u16 k l }
  | _ => none

def TruckWire.bytes (g : TruckWire) : List Byte := bytes16 g.target ++ bytes16 g.margin ++ [g.settle]

def TruckWire.ofBytes : List Byte → Option TruckWire
  | [a, b, c, d, e] => some { target := u16 a b, margin := u16 c d, settle := e }
  | _ => none

def LimitsWire.bytes (g : LimitsWire) : List Byte := [g.filter] ++ bytes16 g.maxSpeed ++ [g.pair]

def LimitsWire.ofBytes : List Byte → Option LimitsWire
  | [a, b, c, d] => some { filter := a, maxSpeed := u16 b c, pair := d }
  | _ => none

/-- The NOTICE group: the level of each class, 1 to 20 (Table 11.1). -/
def noticeBytes (g : PerClass Byte) : List Byte := NoticeClass.all.map g.get

def noticeOfBytes : List Byte → Option (PerClass Byte)
  | [a, b, c, d, e, f, g, h, i, j, k, l, m, n, o, p, q, r, s, t] =>
    some ⟨a, b, c, d, e, f, g, h, i, j, k, l, m, n, o, p, q, r, s, t⟩
  | _ => none

/-! ## Requests and bodies -/

/-- The kind byte of a request (Table 10.7). -/
def Request.kind : Request → Byte
  | .setStation _ => 0x01
  | .startScan => 0x10
  | .stopScan => 0x11
  | .singleScan => 0x12
  | .readChannels => 0x13
  | .loadSegments _ => 0x20
  | .segmentRecord _ => 0x21
  | .abortTransfer => 0x22
  | .cutProgram _ => 0x23
  | .clearProgram => 0x24
  | .querySegment _ => 0x25
  | .locateByStation _ => 0x26
  | .locateBySegment _ _ => 0x27
  | .addObstacle _ => 0x30
  | .removeObstacle _ => 0x31
  | .listObstacles _ => 0x32
  | .setTrim _ _ _ => 0x41
  | .setLegMode _ _ => 0x50
  | .jogLeg _ _ _ _ => 0x51
  | .setBeltMode _ _ => 0x60
  | .setTruckTarget _ => 0x61
  | .truckDone => 0x62
  | .takeTruckRecord => 0x63
  | .clearTotals => 0x64
  | .readTotals => 0x65
  | .releaseHold _ => 0x70
  | .readStatus => 0x71
  | .peekStatus => 0x72
  | .identify => 0x78
  | .linkReset => 0x79
  | .writeGeometry _ => 0x7A
  | .writeChannel _ _ => 0x7A
  | .writeControl _ => 0x7A
  | .writeLeg _ => 0x7A
  | .writeScan _ => 0x7A
  | .writeConveyor _ => 0x7A
  | .writeTruck _ => 0x7A
  | .writeLimits _ => 0x7A
  | .writeNotice _ => 0x7A
  | .writeLink _ => 0x7A
  | .writeNoGroup _ _ => 0x7A
  | .readSetup _ => 0x7B
  | .storeSetup => 0x7C

/-- The group byte of a CHANNEL group, 1 to 8 (Table 11.1). -/
def channelGroup (c : Channel) : Byte := BitVec.ofNat 8 (c.val + 1)

/-- The body of a request (Tables 10.7 to 10.9, 11.1). -/
def Request.body : Request → List Byte
  | .setStation x => bytes24 x
  | .loadSegments n => [n]
  | .segmentRecord r => r.bytes
  | .cutProgram c => bytes24 c
  | .querySegment id => bytes16 id
  | .locateByStation x => bytes24 x
  | .locateBySegment id off => bytes16 id ++ bytes24 off
  | .addObstacle o => o.bytes
  | .removeObstacle id => [id]
  | .listObstacles i => [i]
  | .setTrim p l r => p :: (bytes16 l ++ bytes16 r)
  | .setLegMode leg mode => [leg, mode]
  | .jogLeg leg dir p d => leg :: dir :: (bytes16 p ++ bytes16 d)
  | .setBeltMode mode p => mode :: bytes16 p
  | .setTruckTarget l => bytes16 l
  | .releaseHold r => [r]
  | .writeGeometry g => 0 :: g.bytes
  | .writeChannel c g => channelGroup c :: g.bytes
  | .writeControl g => 9 :: g.bytes
  | .writeLeg g => 10 :: legGroupBytes g
  | .writeScan g => 11 :: g.bytes
  | .writeConveyor g => 12 :: g.bytes
  | .writeTruck g => 13 :: g.bytes
  | .writeLimits g => 14 :: g.bytes
  | .writeNotice g => 15 :: noticeBytes g
  | .writeLink b => [16, b]
  | .writeNoGroup g rest => g :: rest
  | .readSetup g => [g]
  | _ => []

/-- A Write Setup body after its group byte (Table 11.1). -/
def parseGroup (group : Byte) (rest : List Byte) : Option Request :=
  match group.toNat with
  | 0 => (GeometryWire.ofBytes rest).map .writeGeometry
  | 1 => (ChannelWire.ofBytes rest).map (.writeChannel 0)
  | 2 => (ChannelWire.ofBytes rest).map (.writeChannel 1)
  | 3 => (ChannelWire.ofBytes rest).map (.writeChannel 2)
  | 4 => (ChannelWire.ofBytes rest).map (.writeChannel 3)
  | 5 => (ChannelWire.ofBytes rest).map (.writeChannel 4)
  | 6 => (ChannelWire.ofBytes rest).map (.writeChannel 5)
  | 7 => (ChannelWire.ofBytes rest).map (.writeChannel 6)
  | 8 => (ChannelWire.ofBytes rest).map (.writeChannel 7)
  | 9 => (ControlWire.ofBytes rest).map .writeControl
  | 10 => (legGroupOfBytes rest).map .writeLeg
  | 11 => (ScanWire.ofBytes rest).map .writeScan
  | 12 => (ConveyorWire.ofBytes rest).map .writeConveyor
  | 13 => (TruckWire.ofBytes rest).map .writeTruck
  | 14 => (LimitsWire.ofBytes rest).map .writeLimits
  | 15 => (noticeOfBytes rest).map .writeNotice
  | 16 =>
    match rest with
    | [b] => some (.writeLink b)
    | _ => none
  | _ => some (.writeNoGroup group rest)

def parse0 (r : Request) (body : List Byte) : Option Request :=
  match body with
  | [] => some r
  | _ => none

def parse1 (r : Byte → Request) (body : List Byte) : Option Request :=
  match body with
  | [a] => some (r a)
  | _ => none

def parse16 (r : BitVec 16 → Request) (body : List Byte) : Option Request :=
  match body with
  | [a, b] => some (r (u16 a b))
  | _ => none

def parse24 (r : BitVec 24 → Request) (body : List Byte) : Option Request :=
  match body with
  | [a, b, c] => some (r (u24 a b c))
  | _ => none

/-- The request a good frame carries (Tables 10.7 to 10.9, 11.1); none for a kind that is no request kind
or a body of another length than its kind gives. -/
def parseRequest (kind : Byte) (body : List Byte) : Option Request :=
  match kind.toNat with
  | 0x01 => parse24 .setStation body
  | 0x10 => parse0 .startScan body
  | 0x11 => parse0 .stopScan body
  | 0x12 => parse0 .singleScan body
  | 0x13 => parse0 .readChannels body
  | 0x20 => parse1 .loadSegments body
  | 0x21 => (SegmentWire.ofBytes body).map .segmentRecord
  | 0x22 => parse0 .abortTransfer body
  | 0x23 => parse24 .cutProgram body
  | 0x24 => parse0 .clearProgram body
  | 0x25 => parse16 .querySegment body
  | 0x26 => parse24 .locateByStation body
  | 0x27 =>
    match body with
    | [a, b, c, d, e] => some (.locateBySegment (u16 a b) (u24 c d e))
    | _ => none
  | 0x30 => (ObstacleWire.ofBytes body).map .addObstacle
  | 0x31 => parse1 .removeObstacle body
  | 0x32 => parse1 .listObstacles body
  | 0x41 =>
    match body with
    | [p, a, b, c, d] => some (.setTrim p (u16 a b) (u16 c d))
    | _ => none
  | 0x50 =>
    match body with
    | [a, b] => some (.setLegMode a b)
    | _ => none
  | 0x51 =>
    match body with
    | [a, b, c, d, e, f] => some (.jogLeg a b (u16 c d) (u16 e f))
    | _ => none
  | 0x60 =>
    match body with
    | [a, b, c] => some (.setBeltMode a (u16 b c))
    | _ => none
  | 0x61 => parse16 .setTruckTarget body
  | 0x62 => parse0 .truckDone body
  | 0x63 => parse0 .takeTruckRecord body
  | 0x64 => parse0 .clearTotals body
  | 0x65 => parse0 .readTotals body
  | 0x70 => parse1 .releaseHold body
  | 0x71 => parse0 .readStatus body
  | 0x72 => parse0 .peekStatus body
  | 0x78 => parse0 .identify body
  | 0x79 => parse0 .linkReset body
  | 0x7A =>
    match body with
    | [] => none
    | g :: rest => parseGroup g rest
  | 0x7B => parse1 .readSetup body
  | 0x7C => parse0 .storeSetup body
  | _ => none

/-- The request and tag of a request row; none for the other rows. UNKNOWN_REQUEST carries no request. -/
def Instr.request? : Instr → Option (Byte × Request)
  | .setStation t x => some (t, .setStation x)
  | .startScan t => some (t, .startScan)
  | .stopScan t => some (t, .stopScan)
  | .singleScan t => some (t, .singleScan)
  | .readChannels t => some (t, .readChannels)
  | .loadSegments t n => some (t, .loadSegments n)
  | .segmentRecord t r => some (t, .segmentRecord r)
  | .abortTransfer t => some (t, .abortTransfer)
  | .cutProgram t c => some (t, .cutProgram c)
  | .clearProgram t => some (t, .clearProgram)
  | .querySegment t id => some (t, .querySegment id)
  | .locateByStation t x => some (t, .locateByStation x)
  | .locateBySegment t id off => some (t, .locateBySegment id off)
  | .addObstacle t o => some (t, .addObstacle o)
  | .removeObstacle t id => some (t, .removeObstacle id)
  | .listObstacles t i => some (t, .listObstacles i)
  | .setTrim t p l r => some (t, .setTrim p l r)
  | .setLegMode t leg mode => some (t, .setLegMode leg mode)
  | .setLegModeAuto t leg => some (t, .setLegMode leg 2)
  | .jogLeg t leg dir p d => some (t, .jogLeg leg dir p d)
  | .setBeltMode t mode p => some (t, .setBeltMode mode p)
  | .setTruckTarget t l => some (t, .setTruckTarget l)
  | .truckDone t => some (t, .truckDone)
  | .takeTruckRecord t => some (t, .takeTruckRecord)
  | .clearTotals t => some (t, .clearTotals)
  | .readTotals t => some (t, .readTotals)
  | .releaseHold t r => some (t, .releaseHold r)
  | .readStatus t => some (t, .readStatus)
  | .peekStatus t => some (t, .peekStatus)
  | .identify t => some (t, .identify)
  | .linkReset t => some (t, .linkReset)
  | .writeSetupGeometry t g => some (t, .writeGeometry g)
  | .writeSetupChannel t c g => some (t, .writeChannel c g)
  | .writeSetupControl t g => some (t, .writeControl g)
  | .writeSetupLeg t g => some (t, .writeLeg g)
  | .writeSetupScan t g => some (t, .writeScan g)
  | .writeSetupConveyor t g => some (t, .writeConveyor g)
  | .writeSetupTruck t g => some (t, .writeTruck g)
  | .writeSetupLimits t g => some (t, .writeLimits g)
  | .writeSetupNotice t g => some (t, .writeNotice g)
  | .writeSetupLink t b => some (t, .writeLink b)
  | .readSetup t g => some (t, .readSetup g)
  | .storeSetup t => some (t, .storeSetup)
  | _ => none

/-- The command a table word spells. Every row of spec/opcode_table.json has an empty "fields" list and no
fixed bits, so no word spells a command. -/
def decodeTableWord (_nbits _w : Nat) : Option Instr := none

end Sys2Proof
end

