-- ==== Sys2Proof/Config.lean ====
section
/-! DEFINITION. What the spec leaves open, as opaque constants: nothing in Lean can evaluate them, so a
proof holds whatever they are. Each is named in the assumption log. -/

namespace Sys2Proof.Config

/-- Which goes first when a reply and a notice fall due together on an IDLE line (R176: "either may be
taken first"); applied to the free-value counter. Log 6. -/
opaque replyFirst : Nat → Bool

/-- The order in which the changes accepted at one switch sample are taken (R153: "their order is not
defined"), as the number of a permutation; applied to the free-value counter. Log 7. -/
opaque switchOrder : Nat → Nat

/-- A volume total that a sum would carry past 2^63 - 1 (file 07 section 7.4 gives the range and not what
happens past it); applied to the free-value counter, and within the range. Log 8. -/
opaque volumePastRange : Nat → BitVec 63

/-- The 4-byte litres field of a housing volume that does not fit it (R175, Table 10.10); a function of the
litres. Log 9. -/
opaque housingLitresPastField : Nat → BitVec 32

/-- The kind byte of the reply to a kind of 80h or above, where kind plus 80h is no byte (R175). Log 10. -/
opaque replyKindPast : Byte → Byte

/-- The hardware revision letter Identify returns (R178); the spec names no letter. Log 11. -/
opaque hardwareRevision : Byte

/-- The side byte of a spike run of 0 in the Read Channels reply (Table 2.5 gives a side to held-off samples
only). Log 12. -/
opaque sideOfNoSpike : Byte

end Sys2Proof.Config
end

