-- ==== Sys2Proof/Machine/State.lean ====
section
/-! DEFINITION. The state of the TG-740, one record for each block of file 00 section 3, the reasons a step
can stop (none), and the state after reset. Every field is plain data. -/

namespace Sys2Proof.Machine

open Sys2Proof

/-! ## Settings (file 11, Table 11.1) -/

/-- What a channel measures (file 02 R18). `noHead` is the manual's NONE. -/
inductive ChannelKind where
  | noHead | distance | slope
  deriving DecidableEq, Repr

/-- How a side is measured (file 05 R89). -/
inductive SideMode where
  | gradeOne | gradeMean | slope
  deriving DecidableEq, Repr

/-- Which phase order counts forward (file 01 R1). -/
inductive EncoderSense where
  | normal | inverted
  deriving DecidableEq, Repr

/-- What triggers continuous scans (file 02 Table 2.2). -/
inductive TriggerMode where
  | distance | interval
  deriving DecidableEq, Repr

/-- The low-water thresholds 2, 8 and 32 (file 03 Table 3.2). -/
inductive LowWater where
  | two | eight | thirtyTwo
  deriving DecidableEq, Repr

/-- The switch filter periods 1, 4 and 16 ms (file 08 Table 8.2). -/
inductive FilterPeriod where
  | ms1 | ms4 | ms16
  deriving DecidableEq, Repr

/-- The supply threshold pairs 18.0/19.5, 20.0/21.5 and 9.0/10.5 V (Table 8.2). -/
inductive SupplyPair where
  | v18 | v20 | v9
  deriving DecidableEq, Repr

/-- The baud rates 57,600, 115,200 and 230,400 (file 10 Table 10.1). -/
inductive Baud where
  | b57600 | b115200 | b230400
  deriving DecidableEq, Repr

/-- A GEOMETRY group's channel list: a count and four slots, those beyond the count ignored (Table 11.1). -/
structure ChannelGroup where
  count : Nat
  slots : Quad Byte
  deriving DecidableEq, Repr

structure Geometry where
  width : Nat
  refSide : Side
  refMode : SideMode
  farMode : SideMode
  refGroup : ChannelGroup
  farGroup : ChannelGroup
  slopeChannel : Channel
  pulses : Nat
  sense : EncoderSense
  deriving DecidableEq, Repr

structure ChannelSetup where
  kind : ChannelKind
  gain : Int
  offset : Int
  span : Nat
  mount : Int
  spike : Nat
  deriving DecidableEq, Repr

structure Control where
  defaultSlope : Int
  lowWater : LowWater
  lookahead : Nat
  tolerance : Nat
  deadband : Nat
  gain : Nat
  slew : Nat
  swell : Nat
  deriving DecidableEq, Repr

structure LegSetup where
  start : Nat
  maximum : Nat
  rate : Nat
  deriving DecidableEq, Repr

structure ScanSetup where
  mode : TriggerMode
  count : Nat
  slots : Octet Byte
  prescaler : Nat
  period : Nat
  settle : Nat
  park : Nat
  distance : Nat
  standstillPeriod : Nat
  deriving DecidableEq, Repr

structure ConveyorSetup where
  capacity : Nat
  beltMin : Nat
  purge : Nat
  topOff : Nat
  housingLimit : Nat
  pickup : Nat
  start : Nat
  maximum : Nat
  deriving DecidableEq, Repr

structure TruckSetup where
  target : Nat
  margin : Nat
  settle : Nat
  deriving DecidableEq, Repr

structure Limits where
  filter : FilterPeriod
  maxSpeed : Nat
  pair : SupplyPair
  deriving DecidableEq, Repr

/-- The seventeen groups of Table 11.1. -/
structure Setup where
  geometry : Geometry
  channels : Octet ChannelSetup
  control : Control
  legs : Sides LegSetup
  scan : ScanSetup
  conveyor : ConveyorSetup
  truck : TruckSetup
  limits : Limits
  levels : PerClass Nat
  baud : Baud
  deriving DecidableEq, Repr

/-- The default level of each class (file 09 Table 9.1). -/
def factoryLevels : PerClass Nat :=
  { supplyLow := 0, stopSense := 0, obstacleBreach := 0, referenceLost := 0, beltStall := 0,
    housingHigh := 1, programEnd := 1, obstacleUnsampled := 1, rampLimited := 1, programLow := 1,
    legLimit := 2, channelFault := 2, channelRecovered := 2, programGap := 2, scanOverrun := 2,
    truckComplete := 2, transferTimeout := 2, setupDefaulted := 1, segmentDone := 3,
    referenceSwitched := 3 }

def factoryLeg : LegSetup := { start := 250, maximum := 1000, rate := 30 }

/-- The factory defaults: the factory default columns of the owning chapters (file 11 section 11.1). Unused
list slots are 0 (log 34). -/
def factorySetup : Setup :=
  { geometry :=
      { width := 2000, refSide := .left, refMode := .gradeOne, farMode := .gradeOne,
        refGroup := { count := 1, slots := ⟨0, 0, 0, 0⟩ }, farGroup := { count := 1, slots := ⟨1, 0, 0, 0⟩ },
        slopeChannel := 7, pulses := 1000, sense := .normal },
    channels := Octet.fill { kind := .noHead, gain := 0, offset := 0, span := 1000, mount := 0, spike := 0 },
    control :=
      { defaultSlope := 0, lowWater := .eight, lookahead := 1000, tolerance := 20, deadband := 5,
        gain := 10, slew := 100, swell := 130 },
    legs := ⟨factoryLeg, factoryLeg⟩,
    scan :=
      { mode := .distance, count := 0, slots := Octet.fill 0, prescaler := 1, period := 50, settle := 100,
        park := 5, distance := 5, standstillPeriod := 200 },
    conveyor :=
      { capacity := 60, beltMin := 20, purge := 40, topOff := 30, housingLimit := 800, pickup := 1000,
        start := 200, maximum := 900 },
    truck := { target := 12000, margin := 1500, settle := 3 },
    limits := { filter := .ms4, maxSpeed := 200, pair := .v18 },
    levels := factoryLevels,
    baud := .b115200 }

/-! ## Travel Counter (file 01 Table 1.1) -/

inductive Direction where
  | forward | reverse
  deriving DecidableEq, Repr

structure Travel where
  phaseA : Bool
  phaseB : Bool
  edges : Int
  station : Nat
  frac : Nat
  dir : Direction
  /-- The ten speed intervals, the one in progress first (R8). -/
  window : List Int
  speed : Int
  standstill : Bool
  /-- Running toward the 500 ms limit (R9). -/
  standstillTimer : Bool
  /-- t, centimetres since the last distance trigger (R10). -/
  triggerCount : Nat
  /-- Running with this period in ms, or stopped (R11). -/
  triggerTimer : Option Nat
  deriving DecidableEq, Repr

/-! ## Channel Scanner (file 02) -/

inductive ScanState where
  | stopped | settling | armed | scanning | parked | single
  deriving DecidableEq, Repr

inductive ChannelState where
  | stale | valid | spikeHeld | fault
  deriving DecidableEq, Repr

inductive SpikeSide where
  | above | below
  deriving DecidableEq, Repr

/-- A channel result record (Table 2.5); its kind is the kind in setup. -/
structure ChannelRecord where
  raw : Nat
  calibrated : Nat
  value : Int
  state : ChannelState
  outRun : Nat
  goodRun : Nat
  spikeRun : Nat
  /-- The side of the held-off samples; of no meaning while the run is 0. -/
  spikeSide : SpikeSide
  deriving DecidableEq, Repr

/-- A scan or single pass in flight: what it read at its start (R24), and whether Set Station was accepted
since (R109). -/
structure ScanInFlight where
  /-- What started the scan; none for a single pass, which no trigger starts (R30). -/
  kind : Option TriggerKind
  station : Nat
  speed : Int
  stationSet : Bool
  deriving DecidableEq, Repr

structure Scanner where
  state : ScanState
  records : Octet ChannelRecord
  taken : Nat
  dropped : Nat
  completed : Nat
  /-- Running timers hold their time in ms. -/
  settleTimer : Option Nat
  intervalTimer : Option Nat
  parkTimer : Option Nat
  parkDue : Bool
  inFlight : Option ScanInFlight
  /-- The in-flight sample buffer (R24). -/
  samples : List (BitVec 12)
  deriving DecidableEq, Repr

/-! ## Program List (file 03) -/

/-- A segment record (Table 3.1). -/
structure Segment where
  id : Nat
  start : Nat
  length : Nat
  depth : Nat
  grade : Int
  slope : Option Int
  endStop : Bool
  deriving DecidableEq, Repr

/-- An open transfer phase, whose item timer runs (Table 3.3). -/
structure Transfer where
  announced : Nat
  accepted : Nat
  deriving DecidableEq, Repr

structure Program where
  segments : List Segment
  base : Option Int
  lowWater : Bool
  transfer : Option Transfer
  deriving DecidableEq, Repr

/-! ## Obstacle Table (file 04) -/

inductive SideMask where
  | left | right | both
  deriving DecidableEq, Repr

inductive ObstacleState where
  | pending | approach | inside | depart | passed
  deriving DecidableEq, Repr

/-- The passage phases; `idle` is the manual's NONE. -/
inductive Passage where
  | idle | opened | closing
  deriving DecidableEq, Repr

/-- An obstacle entry (Table 4.1, section 4.4). -/
structure Obstacle where
  id : Nat
  start : Nat
  length : Nat
  cap : Nat
  q : Nat
  mask : SideMask
  tolerance : Option Nat
  hold : Option Bool
  state : ObstacleState
  crossed : Bool
  breached : Bool
  unsampled : Bool
  passage : Passage
  watched : Bool
  sampled : Bool
  deriving DecidableEq, Repr

/-! ## Grade Computation (file 05 Table 5.2) -/

structure GradeSide where
  reference : Bool
  depth : Int
  inUse : Option Channel
  lastUsed : Option Channel
  target : Option Int
  envelope : Nat
  effective : Int
  error : Int
  command : Option Int
  approach : Bool
  refHold : Bool
  trim : Int
  deriving DecidableEq, Repr

structure Grade where
  sides : Sides GradeSide
  base : Option Nat
  remainder : Nat
  /-- The cap this block holds RAMP with, or none (R106). -/
  ramp : Option Nat
  deriving DecidableEq, Repr

/-! ## Leg Drive (file 06 Tables 6.1, 6.2) -/

inductive LegMode where
  | off | manual | auto | hold
  deriving DecidableEq, Repr

inductive JogDirection where
  | raise | lower
  deriving DecidableEq, Repr

/-- A jog in flight, its timer running with the duration in ms (R125). -/
structure Jog where
  dir : JogDirection
  permille : Nat
  duration : Nat
  deriving DecidableEq, Repr

structure Leg where
  mode : LegMode
  output : Int
  raiseCoil : Nat
  lowerCoil : Nat
  jog : Option Jog
  upper : Bool
  lower : Bool
  deriving DecidableEq, Repr

structure LegDrive where
  legs : Sides Leg
  stopSense : Bool
  supplyLow : Bool
  deriving DecidableEq, Repr

/-! ## Loading Conveyor (file 07 Table 7.1) -/

inductive BeltMode where
  | auto | manual | stop
  deriving DecidableEq, Repr

inductive BeltState where
  | stopped | running | stalled
  deriving DecidableEq, Repr

inductive TruckState where
  | noTruck | settling | loading | topOff | full
  deriving DecidableEq, Repr

inductive EndReason where
  | full | early | forced
  deriving DecidableEq, Repr

inductive Lamp where
  | off | steady | flash
  deriving DecidableEq, Repr

structure Truck where
  number : Nat
  arrival : Nat
  delivered : Nat
  endReason : Option EndReason
  deriving DecidableEq, Repr

/-- A truck record (Table 7.6). -/
structure TruckRecord where
  number : Nat
  arrival : Nat
  departure : Nat
  litres : Nat
  remainder : Nat
  endReason : EndReason
  loss : Bool
  deriving DecidableEq, Repr

structure Conveyor where
  mode : BeltMode
  manualPercent : Nat
  belt : BeltState
  cutRate : Nat
  command : Nat
  coil : Nat
  measured : Nat
  pulseCount : Nat
  stallRun : Nat
  stopSense : Bool
  supplyLow : Bool
  housing : Nat
  totalCut : Nat
  totalDelivered : Nat
  unattributed : Nat
  housingHeld : Bool
  truck : TruckState
  settleTimer : Option Nat
  current : Option Truck
  nextNumber : Nat
  lamp : Lamp
  /-- The lamp output; toggles while FLASH (R144). -/
  lampLit : Bool
  flashTimer : Bool
  /-- The horn sounds while its timer runs (R145). -/
  hornTimer : Bool
  log : List TruckRecord
  deriving DecidableEq, Repr

/-! ## Advance Limit, Machine Inputs, Supply Watch (file 08) -/

structure Advance where
  /-- Each reason absent, or present with its cap (Table 8.4). -/
  holds : PerReason (Option Nat)
  speedCap : Nat
  permit : Bool
  deriving DecidableEq, Repr

inductive Level where
  | unknown | inactive | active
  deriving DecidableEq, Repr

structure InputFilter where
  accepted : Level
  run : Nat
  /-- The sample before (true: active), for the run of an UNKNOWN input (R153). -/
  last : Option Bool
  deriving DecidableEq, Repr

inductive SupplyState where
  | start | normal | low
  deriving DecidableEq, Repr

structure Supply where
  state : SupplyState
  last : Nat
  deriving DecidableEq, Repr

/-! ## Notice Unit (file 09) -/

inductive LostCause where
  | noChannel | noSlope | noReferenceSide
  deriving DecidableEq, Repr

inductive LimitSwitch where
  | upper | lower
  deriving DecidableEq, Repr

inductive DefaultCause where
  | interrupted | check
  deriving DecidableEq, Repr

/-- The detail of each class (Table 9.1). -/
inductive NoticeDetail where
  | supplyLow (tenths : Nat)
  | stopSense
  | obstacleBreach (id : Nat) (d : Side) (depth : Int) (bound : Nat)
  | referenceLost (d : Side) (cause : LostCause)
  | beltStall (command measured : Nat)
  | housingHigh (litres limit : Nat)
  | programEnd (id endStation : Nat) (endStop : Bool)
  | obstacleUnsampled (id start endStation x : Nat)
  /-- The approach Q of each side in approach, and the cap (R107). -/
  | rampLimited (q : Sides (Option Nat)) (cap : Nat)
  | programLow (remaining : Nat) (threshold : LowWater)
  | legLimit (d : Side) (limit : LimitSwitch) (mode : LegMode) (cut : Bool)
  | channelFault (c : Channel) (raw : Nat)
  | channelRecovered (c : Channel)
  | programGap (id nextStart : Nat)
  | scanOverrun (kind : TriggerKind) (state : ScanState)
  | truckComplete (number : Nat) (reason : EndReason) (litres : Nat)
  | transferTimeout (accepted announced : Nat)
  | setupDefaulted (cause : DefaultCause)
  | segmentDone (id : Nat)
  | referenceSwitched (d : Side) (former new : Channel)
  deriving DecidableEq, Repr

/-- A pending notice; its class is its place in the pending set (R165). -/
structure Notice where
  station : Nat
  detail : NoticeDetail
  repeated : Bool
  deriving DecidableEq, Repr

structure Notices where
  pending : PerClass (Option Notice)
  latched : PerClass Bool
  deriving DecidableEq, Repr

/-! ## Console Link (file 10) -/

/-- Reply codes in the order of Table 10.4. -/
inductive ReplyCode where
  | done | clamped | ready | busy | badField | noRoom | overlap | duplicate | past | notAllowed
  | notClear | notFound | unknown | aborted
  deriving DecidableEq, Repr

/-- Detail codes in the order of Table 10.5, then those of file 11 section 11.1 from 32 on. `noDetail` is
the manual's NONE. -/
inductive DetailCode where
  | noDetail | moving | legAuto | program | obstacles | running | emptyList | interval
  | count | noTransfer | length | grade | inside | startup | supply | stopSense
  | scanner | target | reference | leg | mode | direction | duration | limit
  | noTruck | full | reason | level | offset | frame | field | value
  | group | currents | groupKind | slopeKind | slopeSide | repeated | noneListed
  deriving DecidableEq, Repr

/-- A field of a reply or a notice detail: a value and the bytes it takes (R175). -/
structure Field where
  size : Nat
  value : Int
  deriving DecidableEq, Repr

/-- What the owning block answers: the reply header and the fields (Table 10.3). -/
structure Answer where
  code : ReplyCode
  detail : DetailCode
  value : Int
  fields : List Field
  deriving DecidableEq, Repr

/-- A reply with the kind and tag of its request. -/
structure Reply where
  kind : Byte
  tag : Byte
  answer : Answer
  deriving DecidableEq, Repr

/-- The receiver with its frame buffer (Table 10.1). The silence timer runs in `length` to `check`. -/
inductive Receiver where
  | hunt
  | length
  | kind (len : Nat)
  | tag (len : Nat) (kind : Byte)
  | body (len : Nat) (kind tag : Byte) (got : List Byte)
  | check (kind tag : Byte) (body : List Byte) (low : Option Byte)
  | held (kind tag : Byte) (body : List Byte)
  deriving DecidableEq, Repr

/-- The transmitter: idle, or the frame now on the line (Table 10.1). -/
inductive Tx where
  | idle
  | reply (r : Reply)
  | notice (sequence level : Nat) (c : NoticeClass) (n : Notice)
  deriving DecidableEq, Repr

structure LinkCounters where
  good : Nat
  check : Nat
  length : Nat
  silence : Nat
  overrun : Nat
  deriving DecidableEq, Repr

structure Link where
  rx : Receiver
  slot : Option Reply
  tx : Tx
  sequence : Nat
  counters : LinkCounters
  baud : Baud
  deriving DecidableEq, Repr

/-! ## Setup Store (file 11) -/

inductive Phase where
  | load | supplyWait | settle | done
  deriving DecidableEq, Repr

inductive StoredState where
  | stored | defaults
  deriving DecidableEq, Repr

structure Store where
  working : Setup
  /-- The stored copy: the contents while the check matches them, none while it does not (log 15). -/
  stored : Option Setup
  begun : Bool
  /-- A store in flight with its timer running: the working setup as it stood at acceptance (R184). -/
  storing : Option Setup
  /-- The settle timer runs exactly in `settle` (R186). -/
  phase : Phase
  storedState : StoredState
  deriving DecidableEq, Repr

/-! ## The machine -/

structure State where
  travel : Travel
  scanner : Scanner
  program : Program
  obstacles : List Obstacle
  grade : Grade
  legs : LegDrive
  conveyor : Conveyor
  advance : Advance
  inputs : PerInput InputFilter
  supply : Supply
  notices : Notices
  link : Link
  store : Store
  /-- Events handed by one block to another and not yet taken, oldest first (log 1). -/
  handed : List Instr
  /-- The model's own counter, to which the free values of Config are applied (log 3). -/
  freeCount : Nat
  /-- The commands that wait, first in, first out. -/
  pending : List Instr
  deriving DecidableEq, Repr

/-- The spec gives every command of this device a next state, so no fault is raised: the type is empty. -/
inductive Fault where
  deriving DecidableEq, Repr

/-- Why a command has no meaning. Only `exec` could raise it, and no arm does. -/
inductive Refusal where
  /-- A row of the table not modelled yet; raised by no arm of this model. Safe: the machine stops. -/
  | notModelled (mnemonic : String)
  deriving DecidableEq, Repr

/-! ## Reset -/

def ChannelRecord.reset : ChannelRecord :=
  { raw := 0, calibrated := 0, value := 0, state := .stale, outRun := 0, goodRun := 0, spikeRun := 0,
    spikeSide := .above }

def GradeSide.reset : GradeSide :=
  { reference := false, depth := 0, inUse := none, lastUsed := none, target := none, envelope := 3500,
    effective := 0, error := 0, command := none, approach := false, refHold := false, trim := 0 }

def Leg.reset : Leg :=
  { mode := .off, output := 0, raiseCoil := 0, lowerCoil := 0, jog := none, upper := false, lower := false }

def InputFilter.reset : InputFilter := { accepted := .unknown, run := 0, last := none }

/-- The machine right after a power-on reset, in LOAD (R16, R37, R64, R85, R114, R130, R151, R163, R170,
R180, R187). Values the spec leaves open are in log 14 and log 15. -/
def State.reset : State :=
  { travel :=
      { phaseA := false, phaseB := false, edges := 0, station := 0, frac := 0, dir := .forward,
        window := [0, 0, 0, 0, 0, 0, 0, 0, 0, 0], speed := 0, standstill := true, standstillTimer := false,
        triggerCount := 0, triggerTimer := some 200 },
    scanner :=
      { state := .stopped, records := Octet.fill ChannelRecord.reset, taken := 0, dropped := 0,
        completed := 0, settleTimer := none, intervalTimer := none, parkTimer := none, parkDue := false,
        inFlight := none, samples := [] },
    program := { segments := [], base := none, lowWater := false, transfer := none },
    obstacles := [],
    grade := { sides := ⟨GradeSide.reset, GradeSide.reset⟩, base := none, remainder := 0, ramp := none },
    legs := { legs := ⟨Leg.reset, Leg.reset⟩, stopSense := false, supplyLow := false },
    conveyor :=
      { mode := .stop, manualPercent := 0, belt := .stopped, cutRate := 0, command := 0, coil := 0,
        measured := 0, pulseCount := 0, stallRun := 0, stopSense := false, supplyLow := false,
        housing := 0, totalCut := 0, totalDelivered := 0, unattributed := 0, housingHeld := false,
        truck := .noTruck, settleTimer := none, current := none, nextNumber := 1, lamp := .off,
        lampLit := false, flashTimer := false, hornTimer := false, log := [] },
    advance :=
      { holds := (PerReason.fill none).set .startup (some 0), speedCap := 0, permit := false },
    inputs := ⟨InputFilter.reset, InputFilter.reset, InputFilter.reset, InputFilter.reset,
      InputFilter.reset, InputFilter.reset⟩,
    supply := { state := .start, last := 0 },
    notices := { pending := PerClass.fill none, latched := PerClass.fill false },
    link :=
      { rx := .hunt, slot := none, tx := .idle, sequence := 0,
        counters := { good := 0, check := 0, length := 0, silence := 0, overrun := 0 }, baud := .b115200 },
    store :=
      { working := factorySetup, stored := none, begun := false, storing := none, phase := .load,
        storedState := .defaults },
    handed := [], freeCount := 0, pending := [] }

/-! ## Named updates: one block of the state replaced -/

def State.setTravel (s : State) (v : Travel) : State := { s with travel := v }
def State.setScanner (s : State) (v : Scanner) : State := { s with scanner := v }
def State.setProgram (s : State) (v : Program) : State := { s with program := v }
def State.setObstacles (s : State) (v : List Obstacle) : State := { s with obstacles := v }
def State.setGrade (s : State) (v : Grade) : State := { s with grade := v }
def State.setLegs (s : State) (v : LegDrive) : State := { s with legs := v }
def State.setConveyor (s : State) (v : Conveyor) : State := { s with conveyor := v }
def State.setAdvance (s : State) (v : Advance) : State := { s with advance := v }
def State.setInputs (s : State) (v : PerInput InputFilter) : State := { s with inputs := v }
def State.setSupply (s : State) (v : Supply) : State := { s with supply := v }
def State.setNotices (s : State) (v : Notices) : State := { s with notices := v }
def State.setLink (s : State) (v : Link) : State := { s with link := v }
def State.setStore (s : State) (v : Store) : State := { s with store := v }
def State.setHanded (s : State) (v : List Instr) : State := { s with handed := v }
def State.setFreeCount (s : State) (v : Nat) : State := { s with freeCount := v }
def State.setPending (s : State) (v : List Instr) : State := { s with pending := v }

end Sys2Proof.Machine
end

