-- ==== Sys2Proof/Machine/Operands.lean ====
section
/-! DEFINITION. Values and their forms: the roundings and clamps of file 00 section 4.3, the codes of the
enumerated values (file 10 section 10.8, Note), the sized fields of replies and notices (R175), and the
readings of settings that several blocks share. -/

namespace Sys2Proof.Machine

open Sys2Proof

/-! ## Arithmetic (file 00 section 4.3) -/

/-- Division rounded to nearest with ties away from zero, of a quantity that is not negative. -/
def roundDivNat (a b : Nat) : Nat := (2 * a + b) / (2 * b)

/-- Division rounded to nearest with ties away from zero. -/
def roundDiv (a : Int) (b : Nat) : Int :=
  if 0 ≤ a then (roundDivNat a.toNat b : Int) else -(roundDivNat (-a).toNat b : Int)

/-- Division rounded up (the belt percent, R132). -/
def ceilDiv (a b : Nat) : Nat := (a + (b - 1)) / b

/-- A value below lo becomes lo, and one above hi becomes hi. -/
def clamp (lo hi x : Int) : Int := if x < lo then lo else if hi < x then hi else x

/-- `clamp` for quantities that are never negative. -/
def clampNat (lo hi x : Nat) : Nat := if x < lo then lo else if hi < x then hi else x

/-- The next value of a counter that runs from 0 to 65,535 and wraps (R20, R172). -/
def wrap16 (n : Nat) : Nat := (n + 1) % 65536

/-! ## Codes of enumerated values (numbered from 0 in the order their chapter first lists them) -/

/-- LEFT 0, RIGHT 1 (file 10 section 10.8). -/
def sideOfCode (n : Nat) : Option Side :=
  match n with
  | 0 => some .left
  | 1 => some .right
  | _ => none

/-- LEFT 0, RIGHT 1 (file 10 section 10.8). -/
def sideCode : Side → Nat
  | .left => 0
  | .right => 1

/-- File 02 R25. -/
def triggerKindCode : TriggerKind → Nat
  | .distance => 0
  | .standstill => 1
  | .interval => 2

/-- File 08 Table 8.4. -/
def holdReasonOfCode (n : Nat) : Option HoldReason :=
  match n with
  | 0 => some .supply
  | 1 => some .stopSense
  | 2 => some .breach
  | 3 => some .reference
  | 4 => some .housing
  | 5 => some .programEnd
  | 6 => some .ramp
  | 7 => some .startup
  | _ => none

/-- File 08 Table 8.4. -/
def holdReasonCode : HoldReason → Nat
  | .supply => 0
  | .stopSense => 1
  | .breach => 2
  | .reference => 3
  | .housing => 4
  | .programEnd => 5
  | .ramp => 6
  | .startup => 7

/-- File 02 Table 2.1. -/
def ChannelKind.ofCode (n : Nat) : Option ChannelKind :=
  match n with
  | 0 => some .noHead
  | 1 => some .distance
  | 2 => some .slope
  | _ => none

/-- File 02 Table 2.1. -/
def ChannelKind.code : ChannelKind → Nat
  | .noHead => 0
  | .distance => 1
  | .slope => 2

/-- GRADE_ONE 0, GRADE_MEAN 1, SLOPE 2 (file 10 section 10.8). -/
def SideMode.ofCode (n : Nat) : Option SideMode :=
  match n with
  | 0 => some .gradeOne
  | 1 => some .gradeMean
  | 2 => some .slope
  | _ => none

/-- GRADE_ONE 0, GRADE_MEAN 1, SLOPE 2 (file 10 section 10.8). -/
def SideMode.code : SideMode → Nat
  | .gradeOne => 0
  | .gradeMean => 1
  | .slope => 2

/-- File 01 Table 1.2. -/
def EncoderSense.ofCode (n : Nat) : Option EncoderSense :=
  match n with
  | 0 => some .normal
  | 1 => some .inverted
  | _ => none

/-- File 01 Table 1.2. -/
def EncoderSense.code : EncoderSense → Nat
  | .normal => 0
  | .inverted => 1

/-- File 02 Table 2.2. -/
def TriggerMode.ofCode (n : Nat) : Option TriggerMode :=
  match n with
  | 0 => some .distance
  | 1 => some .interval
  | _ => none

/-- File 02 Table 2.2. -/
def TriggerMode.code : TriggerMode → Nat
  | .distance => 0
  | .interval => 1

/-- File 03 Table 3.2; an enumerated field by R181 (log 21). -/
def LowWater.ofCode (n : Nat) : Option LowWater :=
  match n with
  | 0 => some .two
  | 1 => some .eight
  | 2 => some .thirtyTwo
  | _ => none

/-- File 03 Table 3.2; an enumerated field by R181 (log 21). -/
def LowWater.code : LowWater → Nat
  | .two => 0
  | .eight => 1
  | .thirtyTwo => 2

/-- File 08 Table 8.2; an enumerated field by R181 (log 21). -/
def FilterPeriod.ofCode (n : Nat) : Option FilterPeriod :=
  match n with
  | 0 => some .ms1
  | 1 => some .ms4
  | 2 => some .ms16
  | _ => none

/-- File 08 Table 8.2; an enumerated field by R181 (log 21). -/
def FilterPeriod.code : FilterPeriod → Nat
  | .ms1 => 0
  | .ms4 => 1
  | .ms16 => 2

/-- File 08 Table 8.2; an enumerated field by R181 (log 21). -/
def SupplyPair.ofCode (n : Nat) : Option SupplyPair :=
  match n with
  | 0 => some .v18
  | 1 => some .v20
  | 2 => some .v9
  | _ => none

/-- File 08 Table 8.2; an enumerated field by R181 (log 21). -/
def SupplyPair.code : SupplyPair → Nat
  | .v18 => 0
  | .v20 => 1
  | .v9 => 2

/-- File 10 Table 10.1; an enumerated field by R181 (log 21). -/
def Baud.ofCode (n : Nat) : Option Baud :=
  match n with
  | 0 => some .b57600
  | 1 => some .b115200
  | 2 => some .b230400
  | _ => none

/-- File 10 Table 10.1; an enumerated field by R181 (log 21). -/
def Baud.code : Baud → Nat
  | .b57600 => 0
  | .b115200 => 1
  | .b230400 => 2

/-- OFF 0, MANUAL 1, AUTO 2, HOLD 3 (file 10 section 10.8). -/
def LegMode.ofCode (n : Nat) : Option LegMode :=
  match n with
  | 0 => some .off
  | 1 => some .manual
  | 2 => some .auto
  | 3 => some .hold
  | _ => none

/-- OFF 0, MANUAL 1, AUTO 2, HOLD 3 (file 10 section 10.8). -/
def LegMode.code : LegMode → Nat
  | .off => 0
  | .manual => 1
  | .auto => 2
  | .hold => 3

/-- RAISE, LOWER (file 06 R125). -/
def JogDirection.ofCode (n : Nat) : Option JogDirection :=
  match n with
  | 0 => some .raise
  | 1 => some .lower
  | _ => none

/-- RAISE, LOWER (file 06 R125). -/
def JogDirection.code : JogDirection → Nat
  | .raise => 0
  | .lower => 1

/-- File 07 Table 7.1. -/
def BeltMode.ofCode (n : Nat) : Option BeltMode :=
  match n with
  | 0 => some .auto
  | 1 => some .manual
  | 2 => some .stop
  | _ => none

/-- File 07 Table 7.1. -/
def BeltMode.code : BeltMode → Nat
  | .auto => 0
  | .manual => 1
  | .stop => 2

/-- File 02 Table 2.4. -/
def ScanState.code : ScanState → Nat
  | .stopped => 0
  | .settling => 1
  | .armed => 2
  | .scanning => 3
  | .parked => 4
  | .single => 5

/-- File 02 Table 2.5. -/
def ChannelState.code : ChannelState → Nat
  | .stale => 0
  | .valid => 1
  | .spikeHeld => 2
  | .fault => 3

/-- File 02 Table 2.5. -/
def SpikeSide.code : SpikeSide → Nat
  | .above => 0
  | .below => 1

/-- File 07 Table 7.1. -/
def BeltState.code : BeltState → Nat
  | .stopped => 0
  | .running => 1
  | .stalled => 2

/-- File 07 Table 7.1. -/
def TruckState.code : TruckState → Nat
  | .noTruck => 0
  | .settling => 1
  | .loading => 2
  | .topOff => 3
  | .full => 4

/-- File 07 Table 7.6 (log 21). -/
def EndReason.code : EndReason → Nat
  | .full => 0
  | .early => 1
  | .forced => 2

/-- File 04 Table 4.1. -/
def ObstacleState.code : ObstacleState → Nat
  | .pending => 0
  | .approach => 1
  | .inside => 2
  | .depart => 3
  | .passed => 4

/-- File 04 R72. -/
def Passage.code : Passage → Nat
  | .idle => 0
  | .opened => 1
  | .closing => 2

/-- File 05 R102. -/
def LostCause.code : LostCause → Nat
  | .noChannel => 0
  | .noSlope => 1
  | .noReferenceSide => 2

/-- File 06 Table 6.1. -/
def LimitSwitch.code : LimitSwitch → Nat
  | .upper => 0
  | .lower => 1

/-- File 11 R185. -/
def DefaultCause.code : DefaultCause → Nat
  | .interrupted => 0
  | .check => 1

/-- File 10 R178. -/
def StoredState.code : StoredState → Nat
  | .stored => 0
  | .defaults => 1

/-- File 10 Table 10.4. -/
def ReplyCode.code : ReplyCode → Nat
  | .done => 0
  | .clamped => 1
  | .ready => 2
  | .busy => 3
  | .badField => 4
  | .noRoom => 5
  | .overlap => 6
  | .duplicate => 7
  | .past => 8
  | .notAllowed => 9
  | .notClear => 10
  | .notFound => 11
  | .unknown => 12
  | .aborted => 13

/-- File 10 Table 10.5, and file 11 section 11.1 from 32 on. -/
def DetailCode.code : DetailCode → Nat
  | .noDetail => 0
  | .moving => 1
  | .legAuto => 2
  | .program => 3
  | .obstacles => 4
  | .running => 5
  | .emptyList => 6
  | .interval => 7
  | .count => 8
  | .noTransfer => 9
  | .length => 10
  | .grade => 11
  | .inside => 12
  | .startup => 13
  | .supply => 14
  | .stopSense => 15
  | .scanner => 16
  | .target => 17
  | .reference => 18
  | .leg => 19
  | .mode => 20
  | .direction => 21
  | .duration => 22
  | .limit => 23
  | .noTruck => 24
  | .full => 25
  | .reason => 26
  | .level => 27
  | .offset => 28
  | .frame => 29
  | .field => 30
  | .value => 31
  | .group => 32
  | .currents => 33
  | .groupKind => 34
  | .slopeKind => 35
  | .slopeSide => 36
  | .repeated => 37
  | .noneListed => 38

/-- The class numbers 1 to 20 of file 09 Table 9.1. -/
def classNumber : NoticeClass → Nat
  | .supplyLow => 1
  | .stopSense => 2
  | .obstacleBreach => 3
  | .referenceLost => 4
  | .beltStall => 5
  | .housingHigh => 6
  | .programEnd => 7
  | .obstacleUnsampled => 8
  | .rampLimited => 9
  | .programLow => 10
  | .legLimit => 11
  | .channelFault => 12
  | .channelRecovered => 13
  | .programGap => 14
  | .scanOverrun => 15
  | .truckComplete => 16
  | .transferTimeout => 17
  | .setupDefaulted => 18
  | .segmentDone => 19
  | .referenceSwitched => 20

/-- A side mask is coded by bits, LEFT 1, RIGHT 2, BOTH 3 (file 10 section 10.8). -/
def SideMask.ofCode (n : Nat) : Option SideMask :=
  match n with
  | 1 => some .left
  | 2 => some .right
  | 3 => some .both
  | _ => none

def SideMask.code : SideMask → Nat
  | .left => 1
  | .right => 2
  | .both => 3

/-- The threshold in segments (Table 3.2). -/
def LowWater.segments : LowWater → Nat
  | .two => 2
  | .eight => 8
  | .thirtyTwo => 32

/-- The filter period in ms (Table 8.2). -/
def FilterPeriod.ms : FilterPeriod → Nat
  | .ms1 => 1
  | .ms4 => 4
  | .ms16 => 16

/-- The lower threshold of a pair in tenths of a volt (R161). -/
def SupplyPair.lower : SupplyPair → Nat
  | .v18 => 180
  | .v20 => 200
  | .v9 => 90

/-- The upper threshold of a pair in tenths of a volt (R161). -/
def SupplyPair.upper : SupplyPair → Nat
  | .v18 => 195
  | .v20 => 215
  | .v9 => 105

/-! ## Fields of replies and notices (R175) -/

def u8 (n : Nat) : Field := { size := 1, value := n }
def field2 (n : Nat) : Field := { size := 2, value := n }
def field3 (n : Nat) : Field := { size := 3, value := n }
def field4 (n : Nat) : Field := { size := 4, value := n }
def field8 (n : Nat) : Field := { size := 8, value := n }
def signed2 (n : Int) : Field := { size := 2, value := n }
def flag (b : Bool) : Field := { size := 1, value := if b then 1 else 0 }

/-- A value that may be absent follows a 1-byte flag, which is 1 when it is present (R175). An absent value
still takes its bytes, as 0 (log 22). -/
def optional (size : Nat) (v : Option Int) : List Field :=
  match v with
  | some x => [flag true, { size := size, value := x }]
  | none => [flag false, { size := size, value := 0 }]

def optionalChannel (c : Option Channel) : List Field := optional 1 (c.map fun x => (x.val : Int))

/-- The little-endian bytes of a field, in two's complement where its value is negative (R171, R175). -/
def Field.bytes (f : Field) : List Byte := leBytes f.size (f.value % (256 ^ f.size : Nat)).toNat

def fieldBytes (fs : List Field) : List Byte := fs.flatMap Field.bytes

/-- Bytes handed on as fields of one byte. -/
def byteFields (bs : List Byte) : List Field := bs.map fun b => u8 b.toNat

/-- A text in a field of the given size, padded with zero bytes (R178). -/
def textField (size : Nat) (codes : List Nat) : List Field :=
  (codes ++ List.replicate (size - codes.length) 0).map u8

/-- Whole litres of a volume, rounded down (file 00 section 4.3). -/
def litres (mm3 : Nat) : Nat := mm3 / 1000000

/-- The part of a volume below a litre, in mm3. -/
def belowLitre (mm3 : Nat) : Nat := mm3 % 1000000

/-- Whole litres of the housing volume in their 4 bytes (R175); past the field a free value (log 9). -/
def housingLitres (mm3 : Nat) : Nat :=
  if litres mm3 < 2 ^ 32 then litres mm3 else (Config.housingLitresPastField (litres mm3)).toNat

/-- Litres delivered to a truck, which hold at 65,535 (file 07 Table 7.6, Note; log 25). -/
def deliveredLitres (mm3 : Nat) : Nat := if litres mm3 ≤ 65535 then litres mm3 else 65535

/-- The remainder beside `deliveredLitres` (Table 7.6, Note). -/
def deliveredRemainder (mm3 : Nat) : Nat := if litres mm3 ≤ 65535 then belowLitre mm3 else 999999

/-! ## Answers (Table 10.3) -/

/-- A reply that carries no detail. -/
def answer (code : ReplyCode) (fields : List Field) : Answer :=
  { code := code, detail := .noDetail, value := 0, fields := fields }

/-- A refusal with a named detail. -/
def refuse (code : ReplyCode) (detail : DetailCode) : Answer :=
  { code := code, detail := detail, value := 0, fields := [] }

/-- A refusal whose detail is a number (Table 10.5, Note). -/
def refuseValue (code : ReplyCode) (n : Int) : Answer :=
  { code := code, detail := .value, value := n, fields := [] }

/-- A refusal that names the first field out of range by its offset (Table 10.5, Note). -/
def refuseField (offset : Nat) : Answer :=
  { code := .badField, detail := .field, value := offset, fields := [] }

/-- The offset of the first field whose check fails. -/
def firstBad (checks : List (Nat × Bool)) : Option Nat :=
  (checks.find? fun c => !c.2).map Prod.fst

/-! ## Settings read by several blocks -/

/-- The channel a list slot names (0 to 7 by check 4 of R181). -/
def channelOfByte (b : Byte) : Channel := Fin.ofNat 8 b.toNat

/-- The channels of a GEOMETRY group, in group order (file 05 R89). -/
def ChannelGroup.channels (g : ChannelGroup) : List Channel := (g.slots.toList.take g.count).map channelOfByte

/-- The scan list, in list order (file 02 R19). -/
def ScanSetup.list (p : ScanSetup) : List Channel := (p.slots.toList.take p.count).map channelOfByte

/-- Acquisition time of a channel's slot in ms (R18). -/
def slotTime : ChannelKind → Nat
  | .distance => 4
  | .slope => 1
  | .noHead => 0

/-- The scan duration in ms (R19). -/
def scanDuration (p : Setup) : Nat := (p.scan.list.map fun c => slotTime (p.channels.get c).kind).sum

/-- The interval of INTERVAL mode in ms (R19). -/
def scanInterval (p : Setup) : Nat := p.scan.prescaler * p.scan.period

/-- The mode in which a side is measured (R89). -/
def sideMode (g : Geometry) (d : Side) : SideMode := if d = g.refSide then g.refMode else g.farMode

/-- The settings in force. -/
def State.setup (s : State) : Setup := s.store.working

end Sys2Proof.Machine
end

