-- ==== Sys2Proof/Machine/Flags.lean ====
section
/-! DEFINITION. The latched event flags and the pending notices (file 09), and the transmitter that carries
notices and replies (file 10 R176, R177). -/

namespace Sys2Proof.Machine

open Sys2Proof

/-! ## Occurrences (R165) -/

/-- The level of a class as it stands in the working setup (R164). -/
def levelOf (s : State) (c : NoticeClass) : Nat := s.setup.levels.get c

/-- The pending notice an occurrence leaves: a fresh one, or the old one coalesced (R165). -/
def coalesce (old : Option Notice) (station : Nat) (detail : NoticeDetail) : Notice :=
  { station := station, detail := detail, repeated := old.isSome }

/-- The Notice Unit takes an occurrence: the latch is set, and below level 3 the notice of the class is
created or coalesced (R165). -/
def takeOccurrence (s : State) (c : NoticeClass) (station : Nat) (detail : NoticeDetail) : State :=
  s.setNotices
    { latched := s.notices.latched.set c true,
      pending :=
        if levelOf s c < 3 then
          s.notices.pending.set c (some (coalesce (s.notices.pending.get c) station detail))
        else s.notices.pending }

/-! ## The transmitter (R166, R176, R177) -/

/-- Whether class c goes before the best one found so far: it is pending below level 3 and of a lower level;
the classes are looked at in the order of their numbers (R166). -/
def betterNotice (s : State) (best : Option NoticeClass) (c : NoticeClass) : Option NoticeClass :=
  if (s.notices.pending.get c).isSome && decide (levelOf s c < 3) then
    match best with
    | none => some c
    | some b => if levelOf s c < levelOf s b then some c else some b
  else best

/-- The most urgent pending notice: lowest level, then lowest class number (R166). -/
def mostUrgent (s : State) : Option NoticeClass := NoticeClass.all.foldl (betterNotice s) none

/-- The next notice sequence, from 255 to 0 (R177). -/
def nextSequence (n : Nat) : Nat := (n + 1) % 256

/-- The Notice Unit hands notice n of class c to the transmitter (R166, R177). -/
def sendNotice (s : State) (c : NoticeClass) (n : Notice) : State :=
  (s.setNotices { s.notices with pending := s.notices.pending.set c none }).setLink
    { s.link with
      tx := .notice s.link.sequence (levelOf s c) c n, sequence := nextSequence s.link.sequence }

/-- The arbiter with an empty slot: the most urgent notice, when one is pending (R176). -/
def offerNotice (s : State) : State :=
  match mostUrgent s with
  | none => s
  | some c =>
    match s.notices.pending.get c with
    | some n => sendNotice s c n
    | none => s

/-- The transmitter arbiter: while IDLE it takes the reply in the slot, or else a notice (R176). That it does so in LOAD
too, before the baud rate is read (R180), is the model's choice, log 46. -/
def arbitrate (s : State) : State :=
  match s.link.tx with
  | .idle =>
    match s.link.slot with
    | some r => s.setLink { s.link with slot := none, tx := .reply r }
    | none => offerNotice s
  | _ => s

/-- A block posts an occurrence with its station; an IDLE transmitter takes a notice at once (R165, R176). -/
def postAt (s : State) (c : NoticeClass) (station : Nat) (detail : NoticeDetail) : State :=
  arbitrate (takeOccurrence s c station detail)

/-- A post with the station the Travel Counter holds (file 09 section 9.1, Note). -/
def post (s : State) (c : NoticeClass) (detail : NoticeDetail) : State :=
  postAt s c s.travel.station detail

/-! ## Replies -/

/-- A reply placed in the slot, and taken at once by an IDLE transmitter (R175, R176). -/
def placeReply (s : State) (r : Reply) : State :=
  arbitrate (s.setLink { s.link with slot := some r })

/-- A request taken and answered (R175). When the transmitter was IDLE and the request's own notice has
taken the line, either of the two may have gone first (R176): a free value says which (log 6). -/
def respond (kind tag : Byte) (take : State → State × Answer) (s : State) : State :=
  let r := take s
  let reply (a : Answer) : Reply := { kind := kind, tag := tag, answer := a }
  if s.link.tx = .idle ∧ r.1.link.tx ≠ .idle then
    if Config.replyFirst s.freeCount then
      let busy := s.setLink { s.link with tx := .reply (reply r.2) }
      let q := take busy
      (q.1.setLink { q.1.link with tx := .reply (reply q.2) }).setFreeCount (s.freeCount + 1)
    else (placeReply r.1 (reply r.2)).setFreeCount (s.freeCount + 1)
  else placeReply r.1 (reply r.2)

/-! ## Conditions that last (file 09 section 9.3) -/

/-- Whether a side's reference-hold mark is set (R103). -/
def anyRefHold (s : State) : Bool := s.grade.sides.left.refHold || s.grade.sides.right.refHold

/-- The condition read for a class of the condition table; the other classes have none. -/
def lastingCondition (s : State) : NoticeClass → Bool
  | .supplyLow => s.supply.state == .low
  | .stopSense => s.inputs.stopSense.accepted == .active
  | .housingHigh => s.conveyor.housingHeld
  | .programLow => s.program.lowWater
  | .beltStall => s.conveyor.belt == .stalled
  | .referenceLost => anyRefHold s
  | _ => false

/-- All twenty flags cleared, then each flag of a condition that holds set again (R167, R170). -/
def relatch (s : State) : PerClass Bool :=
  { supplyLow := lastingCondition s .supplyLow, stopSense := lastingCondition s .stopSense,
    obstacleBreach := false, referenceLost := lastingCondition s .referenceLost,
    beltStall := lastingCondition s .beltStall, housingHigh := lastingCondition s .housingHigh,
    programEnd := false, obstacleUnsampled := false, rampLimited := false,
    programLow := lastingCondition s .programLow, legLimit := false, channelFault := false,
    channelRecovered := false, programGap := false, scanOverrun := false, truckComplete := false,
    transferTimeout := false, setupDefaulted := false, segmentDone := false, referenceSwitched := false }

/-! ## The bytes on the line (R171, R175, R177) -/

/-- The fields of a notice detail, in the order of Table 9.1. -/
def NoticeDetail.fields : NoticeDetail → List Field
  | .supplyLow m => [field2 m]
  | .stopSense => []
  | .obstacleBreach id d depth bound => [u8 id, u8 (sideCode d), signed2 depth, field2 bound]
  | .referenceLost d cause => [u8 (sideCode d), u8 cause.code]
  | .beltStall p m => [u8 p, u8 m]
  | .housingHigh l limit => [field4 l, field2 limit]
  | .programEnd id e stop => [field2 id, field3 e, flag stop]
  | .obstacleUnsampled id a e x => [u8 id, field3 a, field3 e, field3 x]
  | .rampLimited q cap =>
      [u8 ((if q.left.isSome then 1 else 0) + (if q.right.isSome then 2 else 0))] ++
        (q.left.toList ++ q.right.toList).map u8 ++ [field2 cap]
  | .programLow r t => [u8 r, u8 t.code]
  | .legLimit d w m cut => [u8 (sideCode d), u8 w.code, u8 m.code, flag cut]
  | .channelFault c r => [u8 c.val, field2 r]
  | .channelRecovered c => [u8 c.val]
  | .programGap id x => [field2 id, field3 x]
  | .scanOverrun k t => [u8 (triggerKindCode k), u8 t.code]
  | .truckComplete n r l => [field2 n, u8 r.code, field2 l]
  | .transferTimeout a n => [u8 a, u8 n]
  | .setupDefaulted c => [u8 c.code]
  | .segmentDone id => [field2 id]
  | .referenceSwitched d a b => [u8 (sideCode d), u8 a.val, u8 b.val]

/-- A run of bytes filled with zero bytes to the given size. -/
def padTo (size : Nat) (bs : List Byte) : List Byte := bs ++ List.replicate (size - bs.length) 0

/-- The 18 bytes of a notice body (Table 10.6). -/
def noticeBody (level : Nat) (c : NoticeClass) (n : Notice) : List Byte :=
  fieldBytes [u8 (classNumber c), u8 level, field3 n.station, flag n.repeated] ++
    padTo 12 (fieldBytes n.detail.fields)

/-- A reply's kind byte: the request's kind plus 80h (R175); for a kind where that is no byte, a free value
(log 10). -/
def replyKind (kind : Byte) : Byte :=
  if kind.toNat < 0x80 then kind + 0x80 else Config.replyKindPast kind

/-- The body of a reply: the header of Table 10.3, then its fields. -/
def replyBody (a : Answer) : List Byte :=
  fieldBytes ([u8 a.code.code, u8 a.detail.code, { size := 4, value := a.value }] ++ a.fields)

/-- The bytes of the frame now on the line, none while IDLE (R171). -/
def Tx.line : Tx → List Byte
  | .idle => []
  | .reply r => frameBytes (replyKind r.kind) r.tag (replyBody r.answer)
  | .notice seq level c n => frameBytes 0x40 (BitVec.ofNat 8 seq) (noticeBody level c n)

end Sys2Proof.Machine
end

