-- ==== Sys2Proof/Machine/Ops.lean ====
section
/-! DEFINITION. The operations several blocks share: events handed from block to block, the legs' outputs
and modes, and the hold reason set with its speed cap. -/

namespace Sys2Proof.Machine

open Sys2Proof

/-! ## Events between blocks (R12, R87, R124, R157; log 1) -/

/-- A block hands an event, which waits until its receiver takes it. -/
def hand (s : State) (e : Instr) : State := s.setHanded (s.handed ++ [e])

/-- The receiver takes the event: it is no longer in flight. -/
def takeHanded (s : State) (e : Instr) : State := s.setHanded (s.handed.erase e)

/-! ## Legs (file 06) -/

/-- Whether either leg is in AUTO. -/
def anyAuto (s : State) : Bool := s.legs.legs.left.mode == .auto || s.legs.legs.right.mode == .auto

def legOf (s : State) (d : Side) : Leg := s.legs.legs.get d

def setLeg (s : State) (d : Side) (l : Leg) : State :=
  s.setLegs { s.legs with legs := s.legs.legs.set d l }

/-- The current of the driven coil (stage 13, R116). -/
def coilCurrent (p : LegSetup) (u : Int) : Nat :=
  if u = 0 then 0 else p.start + roundDivNat (u.natAbs * (p.maximum - p.start)) 1000

/-- A leg with applied output u and the two coil currents that follow from it (R116). -/
def driveLeg (p : LegSetup) (l : Leg) (u : Int) : Leg :=
  { l with
    output := u,
    raiseCoil := if u < 0 then coilCurrent p u else 0,
    lowerCoil := if 0 < u then coilCurrent p u else 0 }

/-- A value that would become the applied output, cut at an active limit (R128). -/
def limitCut (l : Leg) (u : Int) : Int :=
  if u < 0 ∧ l.upper then 0 else if 0 < u ∧ l.lower then 0 else u

/-- `last` moved toward u by at most the slew (R101, R122). -/
def slewToward (slew : Nat) (last u : Int) : Int :=
  if (u - last).natAbs ≤ slew then u else if last < u then last + slew else last - slew

/-- The reports a leg's departure from AUTO hands: left-AUTO to the Grade Computation and, when no leg
remains in AUTO, the report to the Channel Scanner (R124). -/
def reportLeftAuto (s : State) (d : Side) (was : LegMode) (now : LegMode) : State :=
  if was = .auto ∧ now ≠ .auto then
    let s := hand s (.leftAutoReport d)
    if anyAuto s then s else hand s .noLegAutoReport
  else s

/-- A leg takes a mode with its jog ended and its output at 0 (R117, R118, R121, R124). -/
def enterMode (s : State) (d : Side) (m : LegMode) : State :=
  let l := legOf s d
  reportLeftAuto (setLeg s d (driveLeg (s.setup.legs.get d) { l with mode := m, jog := none } 0)) d l.mode m

/-- The left-HOLD report when a leg leaves HOLD for another mode at the host's request (R124). -/
def reportLeftHold (s : State) (d : Side) (was : LegMode) (now : LegMode) : State :=
  if was = .hold ∧ now ≠ .hold then hand s (.leftHoldReport d) else s

/-- A leg leaves AUTO for HOLD by the part's own action; in any other mode nothing happens (R123, R124). -/
def holdIfAuto (s : State) (d : Side) : State :=
  if (legOf s d).mode = .auto then enterMode s d .hold else s

/-! ## Advance Limit (file 08 section 8.3) -/

/-- The least of a speed and the caps of the reasons present (R158). -/
def leastCap (holds : PerReason (Option Nat)) (maxSpeed : Nat) : Nat :=
  HoldReason.all.foldl (fun m r => match holds.get r with | some c => min m c | none => m) maxSpeed

/-- The hold set replaced, with the speed cap and the permit recomputed at once (R158). -/
def setHolds (s : State) (holds : PerReason (Option Nat)) : State :=
  let cap := leastCap holds s.setup.limits.maxSpeed
  s.setAdvance { holds := holds, speedCap := cap, permit := decide (0 < cap) }

/-- An add: the reason becomes present with the cap, or its cap is replaced (R157). -/
def addReason (s : State) (r : HoldReason) (cap : Nat) : State :=
  setHolds s (s.advance.holds.set r (some cap))

/-- A withdraw: the reason becomes absent, or stays so (R157). -/
def withdrawReason (s : State) (r : HoldReason) : State :=
  setHolds s (s.advance.holds.set r none)

end Sys2Proof.Machine
end

