-- ==== Sys2Proof/Machine/Program.lean ====
section
/-! DEFINITION. The Program List (file 03): segments, position, target, travel through the program, the
transfer phase and the program requests. -/

namespace Sys2Proof.Machine

open Sys2Proof

/-! ## Segments (R40, R41) -/

/-- The end station, which belongs to the next stretch (R40). -/
def Segment.endStation (g : Segment) : Nat := g.start + g.length

/-- Depth at a station the segment contains, or at its end (R40). -/
def Segment.depthAt (g : Segment) (x : Nat) : Int := g.depth + roundDiv (((x : Int) - g.start) * g.grade) 100

/-- Depth at the end station (R40). -/
def Segment.endDepth (g : Segment) : Int := g.depth + roundDiv ((g.length : Int) * g.grade) 100

/-- The cross-slope the last segment of a run carries, if any carries one (R41). -/
def lastSlope (segs : List Segment) : Option Int := (segs.filterMap Segment.slope).getLast?

/-- Where an effective cross-slope comes from (R60), in the codes of the order R60 lists. -/
inductive SlopeSource where
  | own | carried | base | default
  deriving DecidableEq, Repr

/-- The effective cross-slope of a segment and its source (R41). -/
def effectiveSlope (p : Program) (dflt : Int) (g : Segment) : Int × SlopeSource :=
  match g.slope with
  | some v => (v, .own)
  | none =>
    match lastSlope (p.segments.takeWhile fun h => decide (h.start < g.start)) with
    | some v => (v, .carried)
    | none =>
      match p.base with
      | some v => (v, .base)
      | none => (dflt, .default)

/-! ## Position and target (R43, R44) -/

/-- The position of a station against the list (R43); a GAP names the start of the segment after it. -/
inductive Position where
  | empty
  | before
  | inside (g : Segment)
  | gap (g : Segment) (next : Nat)
  | beyond (g : Segment)
  deriving DecidableEq, Repr

/-- The position of a station at or after the start of g, where `rest` follows g. -/
def positionFrom (g : Segment) (rest : List Segment) (x : Nat) : Position :=
  if x < g.endStation then .inside g
  else
    match rest with
    | [] => .beyond g
    | h :: t => if x < h.start then .gap g h.start else positionFrom h t x

/-- The position of a station against a list of segments (R43). -/
def positionIn (segs : List Segment) (x : Nat) : Position :=
  match segs with
  | [] => .empty
  | g :: rest => if x < g.start then .before else positionFrom g rest x

/-- The position kinds, NONE (EMPTY), BEFORE, INSIDE, GAP, BEYOND (Table 9.2; log 21). -/
def Position.code : Position → Nat
  | .empty => 0
  | .before => 1
  | .inside _ => 2
  | .gap _ _ => 3
  | .beyond _ => 4

/-- The segment the position names (R43). -/
def Position.segment : Position → Option Segment
  | .empty => none
  | .before => none
  | .inside g => some g
  | .gap g _ => some g
  | .beyond g => some g

def behindCount (segs : List Segment) (x : Nat) : Nat := segs.countP fun g => decide (g.endStation ≤ x)

def aheadCount (segs : List Segment) (x : Nat) : Nat := segs.countP fun g => decide (x < g.start)

/-- The ahead count, plus one when the position is INSIDE (R43). R45 has it fall also at a step from BEFORE or a gap
onto a start; the definition and section 3.4.1's step from 99 to 100 (9 stays 9) are followed, log 45. -/
def remainingCount (segs : List Segment) (x : Nat) : Nat :=
  aheadCount segs x + match positionIn segs x with | .inside _ => 1 | _ => 0

/-- The live position. -/
def position (s : State) : Position := positionIn s.program.segments s.travel.station

/-- The kinds of a target (R44). -/
inductive TargetKind where
  | inside | gap | beyond
  deriving DecidableEq, Repr

/-- A target: its kind, depth D, cross-slope s_t and the id of its segment (R44). -/
structure Target where
  kind : TargetKind
  depth : Int
  slope : Int
  id : Nat
  deriving DecidableEq, Repr

/-- The target at a station (R44). -/
def targetAt (s : State) (x : Nat) : Option Target :=
  let slope (g : Segment) := (effectiveSlope s.program s.setup.control.defaultSlope g).1
  match positionIn s.program.segments x with
  | .empty => none
  | .before => none
  | .inside g => some { kind := .inside, depth := g.depthAt x, slope := slope g, id := g.id }
  | .gap g _ => some { kind := .gap, depth := g.endDepth, slope := slope g, id := g.id }
  | .beyond g => some { kind := .beyond, depth := g.endDepth, slope := slope g, id := g.id }

/-! ## Conditions and crossings (R47 to R49) -/

/-- The low-water condition as it stands: a list that is not empty, with few segments left (R49). -/
def lowWaterNow (s : State) : Bool :=
  !s.program.segments.isEmpty &&
    decide (remainingCount s.program.segments s.travel.station ≤ s.setup.control.lowWater.segments)

/-- The low-water condition evaluated: an open phase lets it stop holding and not begin (R49). -/
def evaluateLowWater (s : State) : State :=
  let holds := lowWaterNow s && (s.program.transfer.isNone || s.program.lowWater)
  let t := s.setProgram { s.program with lowWater := holds }
  if holds && !s.program.lowWater then
    post t .programLow
      (.programLow (remainingCount s.program.segments s.travel.station) s.setup.control.lowWater)
  else t

/-- The notices of a position that has changed: PROGRAM_GAP on entering a gap (R47), PROGRAM_END on crossing
the end, with the reason when the last segment has end-stop set (R48). -/
def notePosition (s : State) (old : Position) : State :=
  match position s with
  | .gap g next => if old.code = 3 then s else post s .programGap (.programGap g.id next)
  | .beyond g =>
    if old.code = 4 then s
    else
      let t := post s .programEnd (.programEnd g.id g.endStation g.endStop)
      if g.endStop then hand t (.reasonAdd .programEnd 0) else t
  | _ => s

/-! ## Travel (R45, R46) -/

/-- A segment that has become behind posts SEGMENT_DONE (R45). -/
def noteDone (s : State) : State :=
  match s.program.segments.find? fun g => g.endStation == s.travel.station with
  | some g => post s .segmentDone (.segmentDone g.id)
  | none => s

/-- With nine segments behind, the first is removed and the carried base updated (R45, R41). -/
def dropHead (s : State) : State :=
  match s.program.segments with
  | [] => s
  | g :: rest =>
    if 8 < behindCount s.program.segments s.travel.station then
      s.setProgram { s.program with segments := rest, base := if g.slope.isSome then g.slope else s.program.base }
    else s

/-- The Program List takes a station change to the live station (R45, R46). SEGMENT_DONE goes before the gap
or the end, as R45 says; that PROGRAM_LOW goes after them is the model's choice, log 38. -/
def programStationChange (s : State) (previous : Nat) (dir : Direction) : State :=
  match s.program.segments with
  | [] => s
  | segs =>
    let old := positionIn segs previous
    match dir with
    | .forward => evaluateLowWater (notePosition (dropHead (noteDone s)) old)
    | .reverse =>
      let t := notePosition s old
      evaluateLowWater (if position s = .before ∧ old ≠ .before then hand t .targetLost else t)

/-! ## The transfer phase (R50 to R57) -/

/-- Places free for loading (R50). -/
def freeSegments (s : State) : Nat := 104 - s.program.segments.length

def setTransfer (s : State) (t : Option Transfer) : State := s.setProgram { s.program with transfer := t }

/-- Load Segments (R50). -/
def takeLoadSegments (count : Byte) (s : State) : State × Answer :=
  let n := if count.toNat = 0 then 16 else count.toNat
  if 16 < n then (s, refuse .badField .count)
  else if freeSegments s < n then (s, refuseValue .noRoom (freeSegments s))
  else
    (setTransfer s (some { announced := n, accepted := 0 }), answer .ready [u8 n, u8 (freeSegments s)])

/-- The segment a record carries; bit 0 end-stop, bit 1 cross-slope present (Table 10.8). That the other bits,
and the cross-slope bytes with bit 1 clear, are not looked at is the model's choice, log 30. -/
def SegmentWire.segment (r : SegmentWire) : Segment :=
  { id := r.id.toNat, start := r.start.toNat, length := r.length.toNat, depth := r.depth.toNat,
    grade := r.grade.toInt, slope := if r.flags.getLsbD 1 then some r.slope.toInt else none,
    endStop := r.flags.getLsbD 0 }

/-- Check 1 of R51, with the offsets of Table 10.8. -/
def Segment.fieldChecks (g : Segment) : List (Nat × Bool) :=
  [(0, decide (1 ≤ g.id ∧ g.id ≤ 65535)), (2, decide (g.start ≤ maxStation)),
   (5, decide (1 ≤ g.length ∧ g.length ≤ 100000)), (8, decide (g.depth ≤ 3500)),
   (10, decide (-500 ≤ g.grade ∧ g.grade ≤ 500)),
   (12, match g.slope with | some v => decide (-1000 ≤ v ∧ v ≤ 1000) | none => true)]

/-- The end of the last segment of a list; 0 for the empty list. -/
def lastEnd (segs : List Segment) : Nat :=
  match segs.getLast? with
  | some g => g.endStation
  | none => 0

/-- The first check of R51 that a record fails, as its refusal; none for a good record. -/
def segmentRefusal (s : State) (g : Segment) : Option Answer :=
  match firstBad g.fieldChecks with
  | some off => some (refuseField off)
  | none =>
    if maxStation < g.endStation then some (refuse .badField .length)
    else if g.endDepth < 0 ∨ 3500 < g.endDepth then some (refuse .badField .grade)
    else if s.program.segments.any (fun h => h.id == g.id) then some (refuseValue .duplicate g.id)
    else if g.start < lastEnd s.program.segments then
      some (refuseValue .overlap (lastEnd s.program.segments))
    else if g.endStation ≤ s.travel.station then some (refuseValue .past s.travel.station)
    else none

/-- The reply fields of a Segment Record: accepted count, list count, phase open (R52, R54). -/
def transferFields (accepted listed : Nat) (isOpen : Bool) : List Field := [u8 accepted, u8 listed, flag isOpen]

/-- A good record appended, the position recomputed and program end ahead handed (R52; log 38). -/
def appendSegment (s : State) (g : Segment) (t : Option Transfer) : State :=
  evaluateLowWater
    (notePosition
      (hand (s.setProgram { s.program with segments := s.program.segments ++ [g], transfer := t })
        .programEndAhead)
      (position s))

/-- Segment Record (R51 to R54). -/
def takeSegmentRecord (r : SegmentWire) (s : State) : State × Answer :=
  match s.program.transfer with
  | none => (s, refuse .notAllowed .noTransfer)
  | some t =>
    let g := SegmentWire.segment r
    match segmentRefusal s g with
    | some a =>
      (evaluateLowWater (setTransfer s none),
        { a with fields := transferFields t.accepted s.program.segments.length false })
    | none =>
      let n := t.accepted + 1
      let stays := decide (n < t.announced)
      (appendSegment s g (if stays then some { t with accepted := n } else none),
        answer .done (transferFields n (s.program.segments.length + 1) stays))

/-- Abort Transfer (R56). -/
def takeAbortTransfer (s : State) : State × Answer :=
  match s.program.transfer with
  | none => (s, refuse .notAllowed .noTransfer)
  | some t =>
    (evaluateLowWater (setTransfer s none), answer .aborted [u8 t.accepted, u8 s.program.segments.length])

/-- ITEM_TIMER_EXPIRY: the phase closes with its records kept (R55). -/
def execItemTimerExpiry (s : State) : Host.Outcome State Fault Refusal :=
  match s.program.transfer with
  | none => .next s
  | some t =>
    .next (evaluateLowWater
      (post (setTransfer s none) .transferTimeout (.transferTimeout t.accepted t.announced)))

/-! ## Editing and querying (R58 to R62) -/

/-- A segment shortened to end at c when it reaches past c (R58). -/
def Segment.cutAt (g : Segment) (c : Nat) : Segment :=
  if c < g.endStation then { g with length := c - g.start } else g

/-- The list ended at c (R58). -/
def cutSegments (segs : List Segment) (c : Nat) : List Segment :=
  (segs.filter fun g => decide (g.start < c)).map fun g => g.cutAt c

/-- Cut Program (R58; log 38). -/
def takeCutProgram (c : BitVec 24) (s : State) : State × Answer :=
  if c.toNat ≤ s.travel.station then (s, refuseValue .past s.travel.station)
  else
    let kept := cutSegments s.program.segments c.toNat
    (evaluateLowWater (notePosition (s.setProgram { s.program with segments := kept }) (position s)),
      answer .done [u8 (s.program.segments.length - kept.length), u8 kept.length])

/-- An empty Program List (R59, R64). -/
def Program.emptied (p : Program) : Program := { p with segments := [], base := none, lowWater := false }

/-- Clear Program (R59). -/
def takeClearProgram (s : State) : State × Answer :=
  if anyAuto s then (s, refuse .notAllowed .legAuto)
  else (s.setProgram s.program.emptied, answer .done [u8 s.program.segments.length])

/-- The flags byte of a segment record (Table 10.8). -/
def Segment.flags (g : Segment) : Nat := (if g.endStop then 1 else 0) + (if g.slope.isSome then 2 else 0)

/-- The 15 bytes of a segment record (Table 10.8). -/
def Segment.fields (g : Segment) : List Field :=
  [field2 g.id, field3 g.start, field3 g.length, field2 g.depth, signed2 g.grade, signed2 (g.slope.getD 0),
   u8 g.flags]

/-- OWN, CARRIED, BASE, DEFAULT (R60). -/
def SlopeSource.code : SlopeSource → Nat
  | .own => 0
  | .carried => 1
  | .base => 2
  | .default => 3

/-- BEHIND 0, CURRENT 1, AHEAD 2 (R60). -/
def portionCode (g : Segment) (x : Nat) : Nat :=
  if g.endStation ≤ x then 0 else if x < g.start then 2 else 1

def findSegment (s : State) (id : Nat) : Option Segment := s.program.segments.find? fun g => g.id == id

/-- Query Segment (R60). -/
def takeQuerySegment (id : BitVec 16) (s : State) : State × Answer :=
  match findSegment s id.toNat with
  | none => (s, refuse .notFound .noDetail)
  | some g =>
    let slope := effectiveSlope s.program s.setup.control.defaultSlope g
    (s, answer .done (g.fields ++
      [field3 g.endStation, { size := 2, value := g.endDepth }, signed2 slope.1, u8 slope.2.code,
       u8 (portionCode g s.travel.station)]))

/-- Locate by station (R61). Its offset in the 3 bytes of the Note in file 10 section 10.8 is the model's
choice, log 37. -/
def takeLocateByStation (x : BitVec 24) (s : State) : State × Answer :=
  let p := positionIn s.program.segments x.toNat
  match p with
  | .empty => (s, refuse .notFound .noDetail)
  | _ =>
    match p.segment with
    | some g => (s, answer .done [field2 g.id, field3 (x.toNat - g.start), u8 p.code])
    | none => (s, answer .done [field2 0, field3 0, u8 p.code])

/-- Locate by segment (R62). -/
def takeLocateBySegment (id : BitVec 16) (offset : BitVec 24) (s : State) : State × Answer :=
  match findSegment s id.toNat with
  | none => (s, refuse .notFound .noDetail)
  | some g =>
    if g.length < offset.toNat then (s, refuse .badField .offset)
    else (s, answer .done [field3 (g.start + offset.toNat)])

/-! ## Resets (R64, R66) -/

/-- A link reset empties the list and closes the phase, and hands target lost when the position becomes
EMPTY by it (R64, R66; log 33). -/
def programLinkReset (s : State) : State :=
  let t := s.setProgram { s.program.emptied with transfer := none }
  if s.program.segments.isEmpty then t else hand t .targetLost

end Sys2Proof.Machine
end

