-- ==== Sys2Proof/Machine/Obstacles.lean ====
section
/-! DEFINITION. The Obstacle Table (file 04): entries and their states, passages, the envelope answer, breach
marks and the obstacle requests. -/

namespace Sys2Proof.Machine

open Sys2Proof

/-! ## Entries (R67) -/

def Obstacle.endStation (o : Obstacle) : Nat := o.start + o.length

/-- The highest station the zone contains (R67). -/
def Obstacle.lastStation (o : Obstacle) : Nat := o.endStation - 1

def Obstacle.contains (o : Obstacle) (x : Nat) : Bool := decide (o.start ≤ x ∧ x < o.endStation)

/-- The distance from a station to the zone (R67). -/
def Obstacle.distance (o : Obstacle) (p : Nat) : Nat :=
  if p < o.start then o.start - p else if o.endStation ≤ p then p - o.lastStation else 0

/-- The limit at a station: the cap plus Q for each centimetre of distance (R67). -/
def Obstacle.limitAt (o : Obstacle) (p : Nat) : Nat := o.cap + o.distance p * o.q

/-- The entry's own tolerance, or the default of setup (R67). -/
def Obstacle.effectiveTolerance (o : Obstacle) (dflt : Nat) : Nat := o.tolerance.getD dflt

/-- Whether a side mask names a side (R67). -/
def SideMask.covers (m : SideMask) (d : Side) : Bool :=
  match m, d with
  | .both, _ => true
  | .left, .left => true
  | .right, .right => true
  | _, _ => false

/-- Whether the entry covers a side (R67). -/
def Obstacle.covers (o : Obstacle) (d : Side) : Bool := o.mask.covers d

/-- The zone lies above x for FORWARD, below x for REVERSE. -/
def Obstacle.aheadOf (o : Obstacle) (x : Nat) (dir : Direction) : Bool :=
  match dir with
  | .forward => decide (x < o.start)
  | .reverse => decide (o.endStation ≤ x)

/-- The state an entry out of approach returns to: PENDING if uncrossed, DEPART if crossed (R75, R79). -/
def Obstacle.resting (o : Obstacle) : ObstacleState := if o.crossed then .depart else .pending

/-! ## Station changes (R73 to R76) -/

/-- The station has come into the zone: a new passage, or a CLOSING one opened again (R73). -/
def Obstacle.enter (o : Obstacle) : Obstacle :=
  match o.passage with
  | .closing => { o with state := .inside, passage := .opened }
  | _ => { o with state := .inside, passage := .opened, sampled := false, breached := false, unsampled := false }

/-- The station has left the zone by either edge (R74). -/
def Obstacle.leave (o : Obstacle) : Obstacle := { o with state := .depart, crossed := true, passage := .closing }

/-- The zone lies above x by more than 5000 cm. -/
def Obstacle.farAbove (o : Obstacle) (x : Nat) : Bool := decide (x + 5000 < o.start)

/-- A station change that leaves the entry outside its zone before and after (R75; log 29). -/
def Obstacle.stayOutside (o : Obstacle) (x : Nat) (dir : Direction) : Obstacle :=
  match o.state with
  | .approach => if o.aheadOf x dir then o else { o with state := o.resting }
  | .depart => if o.farAbove x then { o with state := .passed } else o
  | .passed => if decide (x < o.start) && !o.farAbove x then { o with state := .depart } else o
  | _ => o

/-- One entry at a station change (R73 to R75). -/
def Obstacle.move (o : Obstacle) (previous x : Nat) (dir : Direction) : Obstacle :=
  if o.contains x then (if o.contains previous then o else o.enter)
  else if o.contains previous then o.leave
  else o.stayOutside x dir

/-- An entry whose last station lies more than 5000 cm below the station (R76). -/
def Obstacle.farBelow (o : Obstacle) (x : Nat) : Bool := decide (o.lastStation + 5000 < x)

/-- The Obstacle Table takes a station change to the live station (R73 to R76). -/
def obstacleStationChange (s : State) (previous : Nat) (dir : Direction) : State :=
  s.setObstacles
    ((s.obstacles.map fun o => o.move previous s.travel.station dir).filter fun o =>
      !o.farBelow s.travel.station)

/-! ## The envelope question (R77 to R81) -/

/-- What a control step asks: the station, the ground speed, each side's target or none (R77). -/
structure Question where
  x : Nat
  v : Int
  targets : Sides (Option Int)
  deriving DecidableEq, Repr

/-- REVERSE when v is negative, and FORWARD otherwise (R77). -/
def stepSense (v : Int) : Direction := if v < 0 then .reverse else .forward

/-- The lookahead distance in cm, rounded down (R77). -/
def lookahead (v : Int) (ms : Nat) : Nat := v.natAbs * ms / 1000

/-- The window's lower and upper end (R77). -/
def window (q : Question) (ms : Nat) : Nat × Nat :=
  match stepSense q.v with
  | .forward => (q.x, min maxStation (q.x + lookahead q.v ms))
  | .reverse => (q.x - lookahead q.v ms, q.x)

/-- An entry's limit over the window (R78). -/
def Obstacle.limitOver (o : Obstacle) (w : Nat × Nat) : Nat :=
  if w.1 < o.endStation ∧ o.start ≤ w.2 then o.cap
  else if w.2 < o.start then o.limitAt w.2
  else o.limitAt w.1

/-- The envelope of a side: the least of 3500 and the limits of the entries that cover it (R78). -/
def envelope (os : List Obstacle) (d : Side) (w : Nat × Nat) : Nat :=
  os.foldl (fun m o => if o.covers d then min m (o.limitOver w) else m) 3500

/-- Whether an entry is in approach for a side (R79). -/
def Obstacle.inApproach (o : Obstacle) (d : Side) (q : Question) : Bool :=
  o.covers d && o.aheadOf q.x (stepSense q.v) &&
    match q.targets.get d with
    | some t => decide ((o.limitAt q.x : Int) < t)
    | none => false

/-- Whether R79 evaluates an entry: it is PENDING, APPROACH or DEPART. -/
def Obstacle.evaluated (o : Obstacle) : Bool :=
  o.state == .pending || o.state == .approach || o.state == .depart

/-- The evaluation of one entry (R79). -/
def Obstacle.evaluate (o : Obstacle) (q : Question) : Obstacle :=
  if o.evaluated then
    if o.inApproach .left q || o.inApproach .right q then { o with state := .approach }
    else if o.state = .approach then { o with state := o.resting }
    else o
  else o

/-- The approach Q of a side: the largest Q among the entries in approach for it (R79). -/
def approachQ (os : List Obstacle) (d : Side) (q : Question) : Option Nat :=
  os.foldl
    (fun m o =>
      if o.evaluated && o.inApproach d q then
        some (match m with | some n => max n o.q | none => o.q)
      else m)
    none

/-- The sampled mark of an open passage whose zone contains the step's station (R80). -/
def Obstacle.markSampled (o : Obstacle) (x : Nat) : Obstacle :=
  if o.passage ≠ .idle ∧ o.contains x then { o with sampled := true } else o

/-- A passage judged watched and not sampled (R80). -/
def Obstacle.judgedUnsampled (o : Obstacle) : Bool := o.passage == .closing && o.watched && !o.sampled

/-- A CLOSING passage judged: its phase NONE, its marks cleared (R80). -/
def Obstacle.judge (o : Obstacle) : Obstacle :=
  if o.passage = .closing then
    { o with passage := .idle, watched := false, sampled := false, unsampled := o.unsampled || o.judgedUnsampled }
  else o

/-- The watched mark of an entry found PENDING, APPROACH or INSIDE (R80). -/
def Obstacle.markWatched (o : Obstacle) : Obstacle :=
  if o.state = .pending ∨ o.state = .approach ∨ o.state = .inside then { o with watched := true } else o

/-- The passages of one entry settled, in the order sampled, judged, watched (R80). -/
def Obstacle.settle (o : Obstacle) (x : Nat) : Obstacle := ((o.markSampled x).judge).markWatched

/-- OBSTACLE_UNSAMPLED for each passage judged so (R80); table order among them is the model's choice, log 39. -/
def postUnsampled (s : State) (x : Nat) (os : List Obstacle) : State :=
  os.foldl
    (fun s o =>
      if (o.markSampled x).judgedUnsampled then
        post s .obstacleUnsampled (.obstacleUnsampled o.id o.start o.endStation x)
      else s)
    s

/-- One item of the breach list: the id, the sides covered, the cap and the effective tolerance (R81). -/
structure BreachItem where
  id : Nat
  sides : SideMask
  cap : Nat
  tolerance : Nat
  deriving DecidableEq, Repr

/-- The answer to a control step: envelope and approach Q of each side, and the entries whose zone contains
the step's station, in table order (R81). -/
structure EnvelopeAnswer where
  envelope : Sides Nat
  approach : Sides (Option Nat)
  inside : List BreachItem
  deriving DecidableEq, Repr

/-- The entries whose zone contains x, in table order (R81). -/
def breachList (os : List Obstacle) (x dflt : Nat) : List BreachItem :=
  (os.filter fun o => o.contains x).map fun o =>
    { id := o.id, sides := o.mask, cap := o.cap, tolerance := o.effectiveTolerance dflt }

/-- The Obstacle Table answers the envelope question: passages, evaluation, envelope (R77 to R81). -/
def askEnvelope (s : State) (q : Question) : State × EnvelopeAnswer :=
  let settled := s.obstacles.map fun o => o.settle q.x
  let w := window q s.setup.control.lookahead
  (postUnsampled (s.setObstacles (settled.map fun o => o.evaluate q)) q.x s.obstacles,
    { envelope := ⟨envelope settled .left w, envelope settled .right w⟩,
      approach := ⟨approachQ settled .left q, approachQ settled .right q⟩,
      inside := breachList settled q.x s.setup.control.tolerance })

/-! ## Breaches (R82, R83) -/

/-- The breached flag of the entry with this id. -/
def setBreached (os : List Obstacle) (id : Nat) : List Obstacle :=
  os.map fun o => if o.id = id then { o with breached := true } else o

/-- BREACH_MARK: one breach a passage, with the BREACH reason when the hold flag is yes (R82). -/
def takeBreachMark (s : State) (id : Nat) (d : Side) (depth : Int) (bound : Nat) : State :=
  match s.obstacles.find? fun o => o.id == id with
  | none => s
  | some o =>
    if o.breached then s
    else
      let t := post (s.setObstacles (setBreached s.obstacles id)) .obstacleBreach
        (.obstacleBreach id d depth bound)
      if o.hold = some true then hand t (.reasonAdd .breach 0) else t

def execBreachMark (id : Nat) (d : Side) (depth : Int) (bound : Nat) (s : State) :
    Host.Outcome State Fault Refusal :=
  .next (takeBreachMark (takeHanded s (.breachMark id d depth bound)) id d depth bound)

/-- The breach test of the Advance Limit (R83). -/
def breachTest (s : State) (x : Nat) (depths : Sides (Option Int)) : Bool :=
  s.obstacles.any fun o =>
    o.contains x &&
      [Side.left, Side.right].any fun d =>
        o.covers d &&
          match depths.get d with
          | some m => decide (((o.cap + o.effectiveTolerance s.setup.control.tolerance : Nat) : Int) < m)
          | none => false

/-! ## Requests (R68 to R72) -/

/-- The entry a request carries, before its state is given; flag bits 0 tolerance present, 1 hold flag
present, 2 hold flag yes (Table 10.9). That the other bits, the tolerance byte with bit 0 clear and bit 2 with
bit 1 clear are not looked at is the model's choice, log 30. -/
def obstacleOfWire (w : ObstacleWire) (mask : SideMask) : Obstacle :=
  { id := w.id.toNat, start := w.start.toNat, length := w.length.toNat, cap := w.cap.toNat, q := w.q.toNat,
    mask := mask, tolerance := if w.flags.getLsbD 0 then some w.tolerance.toNat else none,
    hold := if w.flags.getLsbD 1 then some (w.flags.getLsbD 2) else none,
    state := .pending, crossed := false, breached := false, unsampled := false, passage := .idle,
    watched := false, sampled := false }

/-- Check 1 of R69, with the offsets of Table 10.9. -/
def obstacleFieldChecks (w : ObstacleWire) : List (Nat × Bool) :=
  [(0, decide (1 ≤ w.id.toNat)), (4, decide (1 ≤ w.length.toNat ∧ w.length.toNat ≤ 5000)),
   (6, decide (w.cap.toNat ≤ 3500)), (8, decide (1 ≤ w.q.toNat ∧ w.q.toNat ≤ 50)),
   (9, (SideMask.ofCode w.mask.toNat).isSome),
   (10, !w.flags.getLsbD 0 || decide (w.tolerance.toNat ≤ 200))]

/-- The first check of R69 that an entry fails after check 1, as its refusal. -/
def obstacleRefusal (s : State) (o : Obstacle) : Option Answer :=
  if maxStation < o.endStation then some (refuse .badField .length)
  else if s.obstacles.any (fun p => p.id == o.id) then some (refuseValue .duplicate o.id)
  else if 24 ≤ s.obstacles.length then some (refuseValue .noRoom s.obstacles.length)
  else if o.farBelow s.travel.station then some (refuseValue .past s.travel.station)
  else none

/-- The first state of an accepted entry (R70). That one whose zone contains the station begins uncrossed is the
model's choice, log 40. -/
def Obstacle.firstState (o : Obstacle) (x : Nat) (dir : Direction) : Obstacle :=
  if o.contains x then { o with state := .inside, passage := .opened }
  else if o.aheadOf x dir then { o with state := .pending }
  else { o with crossed := true, state := if o.farAbove x then .passed else .depart }

/-- The table order: by start station, then by id (R68). -/
def Obstacle.before (a b : Obstacle) : Bool := decide (a.start < b.start ∨ a.start = b.start ∧ a.id < b.id)

/-- An entry inserted at its place in table order (R68). -/
def insertObstacle (o : Obstacle) : List Obstacle → List Obstacle
  | [] => [o]
  | p :: ps => if o.before p then o :: p :: ps else p :: insertObstacle o ps

/-- Add Obstacle (R69, R70). -/
def takeAddObstacle (w : ObstacleWire) (s : State) : State × Answer :=
  match firstBad (obstacleFieldChecks w), SideMask.ofCode w.mask.toNat with
  | none, some mask =>
    let o := obstacleOfWire w mask
    match obstacleRefusal s o with
    | some a => (s, a)
    | none =>
      let e := o.firstState s.travel.station s.travel.dir
      (s.setObstacles (insertObstacle e s.obstacles), answer .done [u8 e.state.code, u8 (s.obstacles.length + 1)])
  | some off, _ => (s, refuseField off)
  | none, none => (s, refuseField 9)

/-- Whether a side the entry covers has its leg in AUTO (R71). -/
def coveredAuto (s : State) (o : Obstacle) : Bool :=
  (o.covers .left && (legOf s .left).mode == .auto) || (o.covers .right && (legOf s .right).mode == .auto)

/-- Remove Obstacle (R71). -/
def takeRemoveObstacle (id : Byte) (s : State) : State × Answer :=
  match s.obstacles.find? fun o => o.id == id.toNat with
  | none => (s, refuse .notFound .noDetail)
  | some o =>
    if o.state = .inside ∧ coveredAuto s o then (s, refuse .notAllowed .inside)
    else
      let rest := s.obstacles.filter fun p => p.id != id.toNat
      (s.setObstacles rest, answer .done [u8 rest.length])

/-- The 16 bytes of an entry in List Obstacles (Table 10.9). -/
def Obstacle.fields (o : Obstacle) (dflt : Nat) : List Field :=
  [u8 o.id, field3 o.start, field2 o.length, field2 o.cap, u8 o.q, u8 o.mask.code, u8 (o.tolerance.getD 0),
   u8 ((if o.tolerance.isSome then 1 else 0) + (if o.hold.isSome then 2 else 0) +
       (if o.hold = some true then 4 else 0)),
   u8 o.state.code,
   u8 ((if o.breached then 1 else 0) + (if o.unsampled then 2 else 0) + (if o.crossed then 4 else 0)),
   u8 o.passage.code, u8 (o.effectiveTolerance dflt)]

/-- List Obstacles (R72). -/
def takeListObstacles (index : Byte) (s : State) : State × Answer :=
  (s, answer .done (u8 s.obstacles.length ::
    ((s.obstacles.drop index.toNat).take 8).flatMap fun o => o.fields s.setup.control.tolerance))

end Sys2Proof.Machine
end

