-- ==== Sys2Proof/Machine/Travel.lean ====
section
/-! DEFINITION. The Travel Counter (file 01): encoder edges, counted pulses, the station, speed, standstill,
triggers and Set Station. -/

namespace Sys2Proof.Machine

open Sys2Proof

/-! ## Encoder input (R1, R2) -/

/-- What an encoder change is: none, a skipped state, or a step in one of the two orders. -/
inductive EdgeStep where
  | same | skipped | up | down
  deriving DecidableEq, Repr

/-- The place of a phase state in the order (0,0), (1,0), (1,1), (0,1) (R1). -/
def phaseIndex (a b : Bool) : Nat :=
  match a, b with
  | false, false => 0
  | true, false => 1
  | true, true => 2
  | false, true => 3

/-- A change of the phase levels, with the two orders exchanged for sense INVERTED (R1, R2; log 35). -/
def edgeStep (sense : EncoderSense) (a b a' b' : Bool) : EdgeStep :=
  match (phaseIndex a' b' + 4 - phaseIndex a b) % 4, sense with
  | 0, _ => .same
  | 1, .normal => .up
  | 1, .inverted => .down
  | 2, _ => .skipped
  | _, .normal => .down
  | _, .inverted => .up

/-! ## Counted pulses (R3 to R7) -/

/-- The station and f after a pulse, or none for a pulse discarded at an end of the range (R3 to R5). -/
def pulseMove (p : Nat) (dir : Direction) (x f : Nat) : Option (Nat × Nat) :=
  match dir with
  | .forward =>
    if f + 100 < p then some (x, f + 100)
    else if maxStation ≤ x then none
    else some (x + 1, f + 100 - p)
  | .reverse =>
    if 100 ≤ f then some (x, f - 100)
    else if x = 0 then none
    else some (x - 1, f + p - 100)

/-- The net count a pulse enters in the interval in progress (R8). -/
def pulseCount : Direction → Int
  | .forward => 1
  | .reverse => -1

/-- A pulse entered in the interval in progress (R8). -/
def bumpWindow (w : List Int) (dir : Direction) : List Int :=
  match w with
  | [] => [pulseCount dir]
  | h :: t => (h + pulseCount dir) :: t

/-- t counts the station change, and at N a distance trigger is issued (R10, R12). -/
def countDistance (s : State) : State :=
  let n := s.travel.triggerCount + 1
  if s.setup.scan.distance ≤ n then
    hand (s.setTravel { s.travel with triggerCount := 0 }) (.triggerTaken .distance s.travel.station)
  else s.setTravel { s.travel with triggerCount := n }

/-- A station change by travel, handed to the Program List and the Obstacle Table, and counted toward the
next distance trigger (R7, R10). -/
def stationMoved (s : State) (previous : Nat) (dir : Direction) : State :=
  countDistance (obstacleStationChange (programStationChange s previous dir) previous dir)

/-- The travel state after a counted pulse that leaves the station at x and the accumulator at f. -/
def pulsedTravel (t : Travel) (dir : Direction) (x f : Nat) : Travel :=
  { t with
    station := x, frac := f, dir := dir, window := bumpWindow t.window dir, standstill := false,
    standstillTimer := true, triggerTimer := none }

/-- A pulse is counted, or discarded at an end of the range (R3 to R9). -/
def countPulse (s : State) (dir : Direction) : State :=
  match pulseMove s.setup.geometry.pulses dir s.travel.station s.travel.frac with
  | none => s
  | some (x, f) =>
    let t := s.setTravel (pulsedTravel s.travel dir x f)
    let u := if s.travel.standstill then hand t .standstillEndEvent else t
    if x = s.travel.station then u else stationMoved u s.travel.station dir

/-- The travel state with new phase levels and edge count. -/
def edged (t : Travel) (a b : Bool) (edges : Int) : Travel := { t with phaseA := a, phaseB := b, edges := edges }

/-- ENCODER_EDGE (R1, R2). -/
def execEncoderEdge (a b : Bool) (s : State) : Host.Outcome State Fault Refusal :=
  let t := s.travel
  .next
    (match edgeStep s.setup.geometry.sense t.phaseA t.phaseB a b with
    | .same => s
    | .skipped => s.setTravel (edged t a b 0)
    | .up =>
      if 4 ≤ t.edges + 1 then countPulse (s.setTravel (edged t a b 0)) .forward
      else s.setTravel (edged t a b (t.edges + 1))
    | .down =>
      if t.edges - 1 ≤ -4 then countPulse (s.setTravel (edged t a b 0)) .reverse
      else s.setTravel (edged t a b (t.edges - 1)))

/-! ## Speed and standstill (R8, R9, R11) -/

/-- n times 400 divided by P, rounded toward zero and clamped to -999..+999 (R8). -/
def groundSpeed (p : Nat) (w : List Int) : Int := clamp (-999) 999 (Int.tdiv (w.sum * 400) p)

/-- The oldest interval leaves the window and an empty one begins (R8; log 16). -/
def slideWindow (w : List Int) : List Int := 0 :: w.dropLast

/-- SPEED_INTERVAL_END (R8). -/
def execSpeedIntervalEnd (s : State) : Host.Outcome State Fault Refusal :=
  let w := slideWindow s.travel.window
  .next (s.setTravel
    { s.travel with
      window := w, speed := if s.travel.standstill then 0 else groundSpeed s.setup.geometry.pulses w })

/-- STANDSTILL_TIMER_EXPIRY (R9); of no effect while the timer is stopped (log 4). -/
def execStandstillTimerExpiry (s : State) : Host.Outcome State Fault Refusal :=
  .next
    (if s.travel.standstillTimer then
      hand
        (s.setTravel
          { s.travel with
            standstill := true, speed := 0, standstillTimer := false,
            triggerTimer := some s.setup.scan.standstillPeriod })
        .standstillBeginEvent
    else s)

/-- STANDSTILL_TRIGGER_TIMER_EXPIRY (R11); of no effect while the timer is stopped (log 4). -/
def execStandstillTriggerTimerExpiry (s : State) : Host.Outcome State Fault Refusal :=
  .next
    (match s.travel.triggerTimer with
    | none => s
    | some _ =>
      hand (s.setTravel { s.travel with triggerTimer := some s.setup.scan.standstillPeriod })
        (.triggerTaken .standstill s.travel.station))

/-! ## Set Station (R13, R14) -/

/-- The first condition of R13 that does not hold, as the refusal's detail. -/
def setStationRefusal (s : State) : Option DetailCode :=
  if !s.travel.standstill then some .moving
  else if anyAuto s then some .legAuto
  else if !s.program.segments.isEmpty then some .program
  else if !s.obstacles.isEmpty then some .obstacles
  else none

/-- The base station made absent, and a scan in flight marked as begun before Set Station (R109). -/
def forgetBase (s : State) : State :=
  (s.setGrade { s.grade with base := none }).setScanner
    { s.scanner with inFlight := s.scanner.inFlight.map fun f => { f with stationSet := true } }

/-- Set Station (R13, R14). -/
def takeSetStation (x : BitVec 24) (s : State) : State × Answer :=
  match setStationRefusal s with
  | some d => (s, refuse .notAllowed d)
  | none =>
    let t := s.setTravel { s.travel with station := x.toNat, frac := 0, edges := 0, triggerCount := 0 }
    let u := obstacleStationChange (programStationChange t s.travel.station s.travel.dir)
      s.travel.station s.travel.dir
    (forgetBase u, answer .done [field3 x.toNat])

/-! ## Settings (R15, R16) -/

/-- The count re-based by a write of GEOMETRY (R15). -/
def Travel.rebased (t : Travel) : Travel :=
  { t with frac := 0, edges := 0, window := List.replicate 10 0, speed := 0 }

/-- What a write of SCAN does to the counter: t to 0, and a running trigger timer restarts (R15). -/
def Travel.rescanned (t : Travel) (period : Nat) : Travel :=
  { t with triggerCount := 0, triggerTimer := t.triggerTimer.map fun _ => period }

end Sys2Proof.Machine
end

