-- ==== Sys2Proof/Machine/Conveyor.lean ====
section
/-! DEFINITION. The Loading Conveyor (file 07): belt, housing volume, totals, truck exchange, truck log and
the conveyor requests. -/

namespace Sys2Proof.Machine

open Sys2Proof

/-! ## Belt command and current (R133, R134) -/

/-- The belt command of AUTO for a truck in LOADING (R133). -/
def loadingCommand (p : ConveyorSetup) (c : Conveyor) : Nat :=
  let least := max c.cutRate p.beltMin
  if 0 < c.housing then max least p.purge else least

/-- The belt command by mode and truck state, before the overrides (Table of R133). -/
def tableCommand (p : ConveyorSetup) (c : Conveyor) : Nat :=
  match c.mode with
  | .stop => 0
  | .manual => c.manualPercent
  | .auto =>
    match c.truck with
    | .loading => loadingCommand p c
    | .topOff => min (loadingCommand p c) p.topOff
    | _ => 0

/-- The belt command: the table's, clamped to 0..100, or 0 by an override (R133). -/
def beltCommand (p : ConveyorSetup) (c : Conveyor) : Nat :=
  if c.belt = .stalled ∨ c.supplyLow ∨ c.stopSense then 0 else clampNat 0 100 (tableCommand p c)

/-- The belt coil current of a command (R134). -/
def beltCurrent (p : ConveyorSetup) (command : Nat) : Nat :=
  if command = 0 then 0 else p.start + roundDivNat (command * (p.maximum - p.start)) 100

/-- STALLED until cleared; otherwise RUNNING while the command is above 0 (R134). -/
def beltStateFor (old : BeltState) (command : Nat) : BeltState :=
  match old with
  | .stalled => .stalled
  | _ => if 0 < command then .running else .stopped

/-- The belt command evaluated, with the current and the belt state that follow it (R133, R134). -/
def Conveyor.evaluated (p : ConveyorSetup) (c : Conveyor) : Conveyor :=
  let n := beltCommand p c
  { c with command := n, coil := beltCurrent p n, belt := beltStateFor c.belt n }

def evaluateBelt (s : State) : State := s.setConveyor (s.conveyor.evaluated s.setup.conveyor)

/-! ## Volumes (section 7.4) -/

/-- Whether a volume lies in the range of a total, 0 to 2^63 - 1 (section 7.4). -/
abbrev volumeFits (n : Nat) : Prop := n < 2 ^ 63

/-- A volume sum; one that falls outside the range is a free value within it (log 8). -/
def addVolume (k a b : Nat) : Nat :=
  if volumeFits (a + b) then a + b else (Config.volumePastRange k).toNat

/-! ## HOUSING (R140) -/

/-- The HOUSING check, made after every change of H (R140). -/
def checkHousing (s : State) : State :=
  let c := s.conveyor
  let limit := s.setup.conveyor.housingLimit
  if limit * 1000000 < c.housing ∧ !c.housingHeld then
    hand
      (post (s.setConveyor { c with housingHeld := true }) .housingHigh
        (.housingHigh (housingLitres c.housing) limit))
      (.reasonAdd .housing 0)
  else if c.housing ≤ limit * 500000 ∧ c.housingHeld then
    hand (s.setConveyor { c with housingHeld := false }) (.reasonWithdraw .housing)
  else s

/-! ## Cut reports (R132) -/

/-- The cut-rate percent, rounded up and clamped (stage 15, R132). -/
def cutRatePercent (rate capacity : Nat) : Nat := clampNat 0 100 (ceilDiv (rate * 100) (capacity * 1000000))

/-- The Loading Conveyor takes a cut report (R132). -/
def takeCutReport (s : State) (r : CutReport) : State :=
  let c := s.conveyor
  let t := (s.setConveyor
    { c with
      housing := addVolume s.freeCount c.housing r.loose,
      totalCut := addVolume (s.freeCount + 1) c.totalCut r.loose,
      cutRate := cutRatePercent r.rate s.setup.conveyor.capacity }).setFreeCount (s.freeCount + 2)
  evaluateBelt (checkHousing t)

def execCutReport (r : CutReport) (s : State) : Host.Outcome State Fault Refusal :=
  .next (takeCutReport (takeHanded s (.cutReport r)) r)

/-! ## Trucks (R143 to R149) -/

/-- The truck enters FULL: lamp OFF, horn pulse (R145). -/
def enterFull (c : Conveyor) (reason : EndReason) : Conveyor :=
  { c with
    truck := .full, current := c.current.map fun t => { t with endReason := some reason },
    lamp := .off, lampLit := false, flashTimer := false, hornTimer := true }

/-- The volume delivered to the current truck. -/
def Conveyor.delivered (c : Conveyor) : Nat :=
  match c.current with
  | some t => t.delivered
  | none => 0

/-- The truck checks on a truck in LOADING or TOP_OFF (R144). -/
def truckChecks (s : State) : State :=
  let c := s.conveyor
  let p := s.setup.truck
  if c.truck = .loading ∨ c.truck = .topOff then
    if p.target * 1000000 ≤ c.delivered then evaluateBelt (s.setConveyor (enterFull c .full))
    else if (p.target - p.margin) * 1000000 ≤ c.delivered then
      if c.truck = .loading then
        evaluateBelt (s.setConveyor
          { c with truck := .topOff, lamp := .flash, lampLit := true, flashTimer := true })
      else s
    else if c.truck = .topOff then
      evaluateBelt (s.setConveyor
        { c with truck := .loading, lamp := .steady, lampLit := true, flashTimer := false })
    else s
  else s

/-- The next truck number, from 65,535 to 1 (R143). -/
def nextTruck (n : Nat) : Nat := if n = 65535 then 1 else n + 1

/-- TRUCK_SETTLE_TIMER_EXPIRY (R143); of no effect while the timer is stopped (log 4). -/
def execTruckSettleTimerExpiry (s : State) : Host.Outcome State Fault Refusal :=
  let c := s.conveyor
  .next
    (match c.settleTimer with
    | none => s
    | some _ =>
      evaluateBelt (truckChecks (s.setConveyor
        { c with
          truck := .loading, settleTimer := none,
          current := some { number := c.nextNumber, arrival := s.travel.station, delivered := 0, endReason := none },
          nextNumber := nextTruck c.nextNumber, lamp := .steady, lampLit := true })))

/-- The record of a truck that leaves (R146, Table 7.6). -/
def truckRecord (t : Truck) (departure : Nat) (reason : EndReason) (loss : Bool) : TruckRecord :=
  { number := t.number, arrival := t.arrival, departure := departure, litres := deliveredLitres t.delivered,
    remainder := deliveredRemainder t.delivered, endReason := reason, loss := loss }

/-- A record appended to the log; a full log loses its oldest record, and the new one says so (R149). -/
def appendRecord (log : List TruckRecord) (r : TruckRecord) : List TruckRecord :=
  if 32 ≤ log.length then log.drop 1 ++ [{ r with loss := true }] else log ++ [{ r with loss := false }]

/-- The current truck leaves: its record, the log, the notice and the belt (R146). -/
def endTruck (s : State) (t : Truck) : State :=
  let c := s.conveyor
  let reason := if c.truck = .full then t.endReason.getD .full else .early
  let r := truckRecord t s.travel.station reason false
  evaluateBelt
    (post
      (s.setConveyor
        { c with
          truck := .noTruck, current := none, lamp := .off, lampLit := false, flashTimer := false,
          log := appendRecord c.log r })
      .truckComplete (.truckComplete t.number reason r.litres))

/-- An accepted change of the truck presence input (R143, R146). -/
def presenceChange (s : State) (active : Bool) : State :=
  let c := s.conveyor
  match active, c.truck with
  | true, .noTruck =>
    evaluateBelt (s.setConveyor
      { c with truck := .settling, settleTimer := some (s.setup.truck.settle * 1000), lamp := .off, lampLit := false })
  | true, _ => s
  | false, .noTruck => s
  | false, .settling => evaluateBelt (s.setConveyor { c with truck := .noTruck, settleTimer := none })
  | false, _ =>
    match c.current with
    | some t => endTruck s t
    | none => s

/-- FLASH_TIMER_EXPIRY: while FLASH, the lamp toggles (R144). -/
def execFlashTimerExpiry (s : State) : Host.Outcome State Fault Refusal :=
  .next
    (if s.conveyor.flashTimer then s.setConveyor { s.conveyor with lampLit := !s.conveyor.lampLit } else s)

/-- HORN_TIMER_EXPIRY: the horn is silenced (R145). -/
def execHornTimerExpiry (s : State) : Host.Outcome State Fault Refusal :=
  .next (s.setConveyor { s.conveyor with hornTimer := false })

/-! ## The belt interval (R135 to R137) -/

/-- BELT_PULSE: counted toward the interval's measured speed (R135). -/
def execBeltPulse (s : State) : Host.Outcome State Fault Refusal :=
  .next (s.setConveyor { s.conveyor with pulseCount := s.conveyor.pulseCount + 1 })

/-- The measured belt speed of a count of pulses (R135). -/
def measuredSpeed (pulses pickup : Nat) : Nat := clampNat 0 100 (roundDivNat (pulses * 1000) pickup)

/-- The volume a belt at this speed carries in 100 ms (stage 16, R136). -/
def beltCapacity (capacity measured : Nat) : Nat := capacity * measured * 1000

/-- The carry credited to the truck, or to the unattributed discharge (R136). -/
def creditCarry (s : State) (carry : Nat) : State :=
  let c := s.conveyor
  if c.truck = .loading ∨ c.truck = .topOff then
    truckChecks
      ((s.setConveyor
        { c with
          current := c.current.map fun t => { t with delivered := t.delivered + carry },
          totalDelivered := addVolume s.freeCount c.totalDelivered carry }).setFreeCount (s.freeCount + 1))
  else
    (s.setConveyor { c with unattributed := addVolume s.freeCount c.unattributed carry }).setFreeCount
      (s.freeCount + 1)

/-- Whether this interval meets the stall condition (R137). -/
def stallMet (c : Conveyor) : Bool := decide (20 ≤ c.command ∧ c.measured * 4 < c.command)

/-- The stall check (R137). -/
def stallCheck (s : State) : State :=
  let c := s.conveyor
  if stallMet c then
    if 20 ≤ c.stallRun + 1 then
      post (s.setConveyor { c with belt := .stalled, stallRun := 0 }) .beltStall (.beltStall c.command c.measured)
    else s.setConveyor { c with stallRun := c.stallRun + 1 }
  else s.setConveyor { c with stallRun := 0 }

/-- The measured speed of the interval, with the count cleared and the carry taken from H (R135, R136). -/
def startInterval (p : ConveyorSetup) (c : Conveyor) : Conveyor × Nat :=
  let m := measuredSpeed c.pulseCount p.pickup
  let carry := min c.housing (beltCapacity p.capacity m)
  ({ c with measured := m, pulseCount := 0, housing := c.housing - carry }, carry)

/-- BELT_INTERVAL (R136). -/
def execBeltInterval (s : State) : Host.Outcome State Fault Refusal :=
  let r := startInterval s.setup.conveyor s.conveyor
  .next (evaluateBelt (stallCheck (checkHousing (creditCarry (s.setConveyor r.1) r.2))))

/-! ## Requests -/

/-- The first check of R138 that a Set Belt Mode fails, as its refusal. -/
def beltModeRefusal (s : State) (m : BeltMode) : Option DetailCode :=
  if m = .stop then none
  else if (s.advance.holds.get .startup).isSome then some .startup
  else if s.conveyor.stopSense then some .stopSense
  else none

/-- A stall cleared, with the run set to 0 (R138). -/
def Conveyor.unstalled (c : Conveyor) : Conveyor :=
  { c with belt := if c.belt = .stalled then .stopped else c.belt, stallRun := 0 }

/-- Set Belt Mode (R138). -/
def takeSetBeltMode (mode : Byte) (percent : BitVec 16) (s : State) : State × Answer :=
  match BeltMode.ofCode mode.toNat with
  | none => (s, refuse .badField .mode)
  | some m =>
    match beltModeRefusal s m with
    | some d => (s, refuse .notAllowed d)
    | none =>
      let pct := clampNat 0 100 percent.toNat
      let c := { s.conveyor with mode := m, manualPercent := if m = BeltMode.manual then pct else s.conveyor.manualPercent }
      let t := evaluateBelt (s.setConveyor c.unstalled)
      (t, answer (if m = BeltMode.manual ∧ pct ≠ percent.toNat then .clamped else .done)
        [u8 t.conveyor.mode.code, u8 t.conveyor.belt.code, u8 t.conveyor.command])

/-- The working setup replaced. -/
def setWorking (s : State) (p : Setup) : State := s.setStore { s.store with working := p }

/-- Set Truck Target (R147). That the delivered volume is sent as 0, with no flag, when there is no current
truck is the model's choice, log 44. -/
def takeSetTruckTarget (l : BitVec 16) (s : State) : State × Answer :=
  let n := clampNat 2000 30000 l.toNat
  let t := truckChecks (setWorking s { s.setup with truck := { s.setup.truck with target := n } })
  (t, answer (if n ≠ l.toNat then .clamped else .done)
    [field2 n, u8 t.conveyor.truck.code, field2 (deliveredLitres t.conveyor.delivered)])

/-- The current truck's number, 0 with none. -/
def Conveyor.truckNumber (c : Conveyor) : Nat :=
  match c.current with
  | some t => t.number
  | none => 0

/-- Truck Done (R148). -/
def takeTruckDone (s : State) : State × Answer :=
  let c := s.conveyor
  match c.truck with
  | .noTruck => (s, refuse .notAllowed .noTruck)
  | .settling => (s, refuse .notAllowed .noTruck)
  | .full => (s, refuse .notAllowed .full)
  | _ =>
    (evaluateBelt (s.setConveyor (enterFull c .forced)),
      answer .done [field2 c.truckNumber, field2 (deliveredLitres c.delivered)])

/-- The 15 bytes of a truck record (Table 10.11). -/
def TruckRecord.fields (r : TruckRecord) : List Field :=
  [field2 r.number, field3 r.arrival, field3 r.departure, field2 r.litres, field3 r.remainder,
   u8 r.endReason.code, flag r.loss]

/-- Take Truck Record (R150). -/
def takeTakeTruckRecord (s : State) : State × Answer :=
  match s.conveyor.log with
  | [] => (s, refuse .notFound .noDetail)
  | r :: rest => (s.setConveyor { s.conveyor with log := rest }, answer .done (r.fields ++ [u8 rest.length]))

/-- A total as whole litres and the remainder (R141, R142, R175). -/
def totalFields (mm3 : Nat) : List Field := [field8 (litres mm3), field3 (belowLitre mm3)]

/-- The housing volume as whole litres in 4 bytes and the remainder (R175). -/
def housingFields (mm3 : Nat) : List Field := [field4 (housingLitres mm3), field3 (belowLitre mm3)]

/-- Total cut, total delivered, unattributed discharge and H (R141, R142). -/
def balanceFields (c : Conveyor) : List Field :=
  totalFields c.totalCut ++ totalFields c.totalDelivered ++ totalFields c.unattributed ++ housingFields c.housing

/-- Clear Totals (R141). -/
def takeClearTotals (s : State) : State × Answer :=
  let c := s.conveyor
  (evaluateBelt (checkHousing
    (hand (s.setConveyor { c with totalCut := 0, totalDelivered := 0, unattributed := 0, housing := 0 })
      .clearRemainder)),
    answer .done (balanceFields c))

/-- Read Totals (R142). -/
def takeReadTotals (s : State) : State × Answer :=
  let c := s.conveyor
  (s, answer .done (balanceFields c ++
    [field2 (deliveredLitres c.delivered), field3 (deliveredRemainder c.delivered), u8 c.truck.code,
     field2 c.truckNumber, u8 c.cutRate, u8 c.command, u8 c.measured, u8 c.log.length]))

end Sys2Proof.Machine
end

