-- ==== Sys2Proof/Machine/Legs.lean ====
section
/-! DEFINITION. The Leg Drive (file 06): commands in AUTO, departures from AUTO, the leg requests, jogs and
limit switches. -/

namespace Sys2Proof.Machine

open Sys2Proof

/-! ## The applied output (R117, R122, R128) -/

/-- A value applied to a leg: cut at an active limit, held at 0 while the supply is low, and turned into coil
currents (R116, R117, R128). -/
def applyOutput (s : State) (d : Side) (l : Leg) (u : Int) : State :=
  setLeg s d (driveLeg (s.setup.legs.get d) l (if s.legs.supplyLow then 0 else limitCut l u))

/-- The Leg Drive takes a step's command: slew guard, then limit cut (R122). -/
def takeLegCommand (s : State) (d : Side) (u : Int) : State :=
  let l := legOf s d
  if l.mode = .auto then applyOutput s d l (slewToward s.setup.control.slew l.output u) else s

def execLegCommand (d : Side) (u : Int) (s : State) : Host.Outcome State Fault Refusal :=
  .next (takeLegCommand (takeHanded s (.legCommand d u)) d u)

/-! ## Departures from AUTO (R123, R124) -/

/-- REFERENCE_LOST_REQUEST: HOLD for a leg still in AUTO, else a left-HOLD report (R123). -/
def execReferenceLostRequest (d : Side) (s : State) : Host.Outcome State Fault Refusal :=
  let t := takeHanded s (.referenceLostRequest d)
  .next (if (legOf t d).mode = .auto then enterMode t d .hold else hand t (.leftHoldReport d))

/-- NO_TARGET_REQUEST: HOLD for a leg still in AUTO, else discarded (R123). -/
def execNoTargetRequest (d : Side) (s : State) : Host.Outcome State Fault Refusal :=
  .next (holdIfAuto (takeHanded s (.noTargetRequest d)) d)

/-- Each leg in AUTO goes to HOLD (R124). -/
def holdAutoLegs (s : State) : State := holdIfAuto (holdIfAuto s .left) .right

/-- TARGET_LOST (R124). -/
def execTargetLost (s : State) : Host.Outcome State Fault Refusal :=
  .next (holdAutoLegs (takeHanded s .targetLost))

/-- Stop sense becomes active: both legs, in any mode, go to HOLD (R124, R155). -/
def legsStopSense (s : State) : State :=
  enterMode (enterMode (s.setLegs { s.legs with stopSense := true }) .left .hold) .right .hold

/-- A leg in AUTO or MANUAL goes to HOLD (R124, R162). -/
def holdIfDriven (s : State) (d : Side) : State :=
  match (legOf s d).mode with
  | .auto => enterMode s d .hold
  | .manual => enterMode s d .hold
  | _ => s

/-- Supply fall: the flag is set, driven legs go to HOLD and the outputs stay at 0 (R117, R162). -/
def legsSupplyFall (s : State) : State :=
  holdIfDriven (holdIfDriven (s.setLegs { s.legs with supplyLow := true }) .left) .right

/-! ## Set Leg Mode (R118 to R121) -/

/-- Whether a channel is usable by its live record: on the scan list, of the kind, VALID or SPIKE_HELD (R88,
R120). -/
def liveUsable (s : State) (kind : ChannelKind) (c : Channel) : Bool :=
  s.setup.scan.list.contains c && (s.setup.channels.get c).kind == kind &&
    ((s.scanner.records.get c).state == .valid || (s.scanner.records.get c).state == .spikeHeld)

/-- The group a side in a grade mode is measured from (R89). -/
def groupOf (g : Geometry) (d : Side) : List Channel :=
  if d = g.refSide then g.refGroup.channels else g.farGroup.channels

/-- A side in a grade mode judged from the live records (R120). -/
def liveGradeReference (s : State) (d : Side) : Bool :=
  (groupOf s.setup.geometry d).any (liveUsable s .distance)

/-- A side's reference judged from the live records (R120). -/
def liveReference (s : State) (d : Side) : Bool :=
  match sideMode s.setup.geometry d with
  | .slope =>
    liveGradeReference s s.setup.geometry.refSide && liveUsable s .slope s.setup.geometry.slopeChannel
  | _ => liveGradeReference s d

/-- The reference check: the item of the last step, or the live records while the base is absent (R120). -/
def hasReference (s : State) (d : Side) : Bool :=
  match s.grade.base with
  | some _ => (s.grade.sides.get d).reference
  | none => liveReference s d

/-- Whether continuous scanning runs under an AUTO leg: SETTLING, ARMED or SCANNING (R119). -/
def scannerReady (s : State) : Bool :=
  s.scanner.state == .settling || s.scanner.state == .armed || s.scanner.state == .scanning

/-- The first check of R119 that a request for AUTO fails, as the refusal's detail. -/
def autoRefusal (s : State) (d : Side) : Option DetailCode :=
  if (s.advance.holds.get .startup).isSome then some .startup
  else if s.legs.supplyLow then some .supply
  else if s.legs.stopSense then some .stopSense
  else if !scannerReady s then some .scanner
  else if (targetAt s s.travel.station).isNone then some .target
  else if !hasReference s d then some .reference
  else none

/-- The leg, the mode and the applied output, as the replies carry them (R118, R121, R131). -/
def legFields (s : State) (d : Side) : List Field :=
  [u8 (sideCode d), u8 (legOf s d).mode.code, signed2 (legOf s d).output]

/-- A mode the host asks for and gets (R118, R121). -/
def grantMode (s : State) (d : Side) (m : LegMode) : State × Answer :=
  let t := reportLeftHold (enterMode s d m) d (legOf s d).mode m
  (t, answer .done (legFields t d))

/-- Set Leg Mode for a known leg and mode (R118, R119, R121). -/
def setMode (s : State) (d : Side) (m : LegMode) : State × Answer :=
  if m = .auto then
    if (legOf s d).mode = .auto then (s, answer .done (legFields s d))
    else
      match autoRefusal s d with
      | some why => (s, refuse .notAllowed why)
      | none => grantMode s d .auto
  else grantMode s d m

/-- Set Leg Mode (R118 to R121). That a bad leg is named before a bad mode is the model's choice, log 41. -/
def takeSetLegMode (leg mode : Byte) (s : State) : State × Answer :=
  match sideOfCode leg.toNat, LegMode.ofCode mode.toNat with
  | none, _ => (s, refuse .badField .leg)
  | some _, none => (s, refuse .badField .mode)
  | some d, some m => setMode s d m

/-! ## Jogs (R125, R126) -/

/-- Whether the limit in a direction is active (R125). -/
def limitToward (l : Leg) (dir : JogDirection) : Bool :=
  match dir with
  | .raise => l.upper
  | .lower => l.lower

/-- The signed permille of a jog, negative for RAISE (R125). -/
def jogOutput (dir : JogDirection) (permille : Nat) : Int :=
  match dir with
  | .raise => -(permille : Int)
  | .lower => permille

/-- Checks 2 to 6 of R125, as the refusal. -/
def jogRefusal (s : State) (d : Side) (dir : JogDirection) (duration : Nat) : Option Answer :=
  if duration < 10 ∨ 2000 < duration then some (refuse .badField .duration)
  else if (legOf s d).mode ≠ .manual then some (refuse .notAllowed .mode)
  else if (s.advance.holds.get .startup).isSome then some (refuse .notAllowed .startup)
  else if s.legs.supplyLow then some (refuse .notAllowed .supply)
  else if limitToward (legOf s d) dir then some (refuse .notAllowed .limit)
  else none

/-- The current of the coil a direction drives. -/
def drivenCoil (l : Leg) (dir : JogDirection) : Nat :=
  match dir with
  | .raise => l.raiseCoil
  | .lower => l.lowerCoil

/-- A jog started, in place of any jog in flight (R125, R126). -/
def startJog (s : State) (d : Side) (dir : JogDirection) (permille duration : Nat) : State :=
  applyOutput s d
    { legOf s d with jog := some { dir := dir, permille := permille, duration := duration } }
    (jogOutput dir permille)

/-- Jog Leg (R125). That the reply carries the mode, which R131 names and R125 does not, is the model's choice,
log 42; that a bad leg is named before a bad direction is log 41. -/
def takeJogLeg (leg direction : Byte) (permille duration : BitVec 16) (s : State) : State × Answer :=
  match sideOfCode leg.toNat, JogDirection.ofCode direction.toNat with
  | none, _ => (s, refuse .badField .leg)
  | some _, none => (s, refuse .badField .direction)
  | some d, some dir =>
    match jogRefusal s d dir duration.toNat with
    | some a => (s, a)
    | none =>
      let n := clampNat 0 1000 permille.toNat
      let t := startJog s d dir n duration.toNat
      (t, answer (if n ≠ permille.toNat then .clamped else .done)
        (legFields t d ++ [field2 (drivenCoil (legOf t d) dir)]))

/-- A jog ended: output 0, both coils at 0 mA, timer stopped (R126). -/
def endJog (s : State) (d : Side) : State :=
  setLeg s d (driveLeg (s.setup.legs.get d) { legOf s d with jog := none } 0)

/-- JOG_TIMER_EXPIRY (R126); of no effect with no jog in flight (log 4). -/
def execJogTimerExpiry (d : Side) (s : State) : Host.Outcome State Fault Refusal :=
  .next (if (legOf s d).jog.isSome then endJog s d else s)

/-! ## Limit switches (R127) -/

/-- The level of one limit switch of a leg. -/
def setLimit (l : Leg) (w : LimitSwitch) (active : Bool) : Leg :=
  match w with
  | .upper => { l with upper := active }
  | .lower => { l with lower := active }

/-- Whether an output drives toward a limit. -/
def towardLimit (w : LimitSwitch) (u : Int) : Bool :=
  match w with
  | .upper => decide (u < 0)
  | .lower => decide (0 < u)

/-- A jog toward a limit ends (R126, R127). -/
def jogAtLimit (w : LimitSwitch) (j : Option Jog) : Option Jog :=
  match j, w with
  | some ⟨.raise, _, _⟩, .upper => none
  | some ⟨.lower, _, _⟩, .lower => none
  | j, _ => j

/-- A leg's limit becomes active: an output toward it is cut, a jog toward it ends (R127). -/
def cutAtLimit (p : LegSetup) (l : Leg) (w : LimitSwitch) : Leg :=
  let m := setLimit { l with jog := jogAtLimit w l.jog } w true
  if towardLimit w l.output then driveLeg p m 0 else m

/-- An accepted change of a limit switch (R127). -/
def limitChange (s : State) (d : Side) (w : LimitSwitch) (active : Bool) : State :=
  let l := legOf s d
  if active then
    post (setLeg s d (cutAtLimit (s.setup.legs.get d) l w)) .legLimit
      (.legLimit d w l.mode (towardLimit w l.output))
  else setLeg s d (setLimit l w false)

/-! ## Settings (R129) -/

/-- The coil currents of both legs recomputed from the outputs held (R129). -/
def recomputeCoils (s : State) : State :=
  s.setLegs { s.legs with
    legs := ⟨driveLeg s.setup.legs.left s.legs.legs.left s.legs.legs.left.output,
      driveLeg s.setup.legs.right s.legs.legs.right s.legs.legs.right.output⟩ }

end Sys2Proof.Machine
end

