-- ==== Sys2Proof/Machine/Grade.lean ====
section
/-! DEFINITION. The Grade Computation (file 05): the control step from fusion to cut report, the reports that
clear its marks, and Set Trim. -/

namespace Sys2Proof.Machine

open Sys2Proof

/-! ## The scan completion (R25, R88) -/

/-- A copy of a listed channel's result record, with its kind (R25). -/
structure ChannelCopy where
  channel : Channel
  kind : ChannelKind
  record : ChannelRecord
  deriving DecidableEq, Repr

/-- The scan completion (R25), and whether Set Station was accepted since the scan began (R109). -/
structure Completion where
  sequence : Nat
  kind : Option TriggerKind
  station : Nat
  speed : Int
  stationSet : Bool
  results : List ChannelCopy
  deriving DecidableEq, Repr

/-- The accepted value of a channel usable at the step (R88): its copy is in the completion, of the kind
asked for, and VALID or SPIKE_HELD. -/
def usableValue (c : Completion) (kind : ChannelKind) (ch : Channel) : Option Int :=
  match c.results.find? fun r => r.channel == ch with
  | none => none
  | some r =>
    if r.kind = kind ∧ (r.record.state = .valid ∨ r.record.state = .spikeHeld) then some r.record.value else none

/-! ## Fusion (R89 to R94) -/

/-- A measured depth clamped to -5000..+7000 (R93). -/
def clampDepth (m : Int) : Int := clamp (-5000) 7000 m

/-- A side's fused depth, with the channel a GRADE_ONE side used; none for no reference. -/
structure Fused where
  depth : Option Int
  used : Option Channel
  deriving DecidableEq, Repr

/-- The first usable channel of a group, with its value (R90). -/
def firstUsable (c : Completion) : List Channel → Option (Channel × Int)
  | [] => none
  | ch :: rest =>
    match usableValue c .distance ch with
    | some v => some (ch, v)
    | none => firstUsable c rest

/-- The mean of values, rounded to nearest with ties away from zero; none for no value (R92). -/
def meanValue (vs : List Int) : Option Int :=
  if vs.isEmpty then none else some (roundDiv vs.sum vs.length)

/-- Fusion of a side in a grade mode (R90, R92, R93). -/
def fuseGroup (mode : SideMode) (group : List Channel) (c : Completion) : Fused :=
  match mode with
  | .gradeOne =>
    match firstUsable c group with
    | some (ch, v) => { depth := some (clampDepth v), used := some ch }
    | none => { depth := none, used := none }
  | .gradeMean =>
    { depth := (meanValue (group.filterMap (usableValue c .distance))).map clampDepth, used := none }
  | .slope => { depth := none, used := none }

/-- The rounded product of a slope and the drum width, divided by 1000 (R94, R96). -/
def acrossDrum (width : Nat) (slope : Int) : Int := roundDiv (slope * width) 1000

/-- Fusion of the reference side. -/
def fuseReference (g : Geometry) (c : Completion) : Fused := fuseGroup g.refMode g.refGroup.channels c

/-- Fusion of the far side: its own group, or across the drum in SLOPE (R94). -/
def fuseFar (g : Geometry) (c : Completion) : Fused :=
  match g.farMode with
  | .slope =>
    match (fuseReference g c).depth, usableValue c .slope g.slopeChannel with
    | some m, some v => { depth := some (clampDepth (m + acrossDrum g.width v)), used := none }
    | _, _ => { depth := none, used := none }
  | mode => fuseGroup mode g.farGroup.channels c

/-- Fusion of a side (R89). -/
def fuseSide (g : Geometry) (c : Completion) (d : Side) : Fused :=
  if d = g.refSide then fuseReference g c else fuseFar g c

/-! ## Targets, law and slew (R95 to R101) -/

/-- A side's target before overlay (R96). -/
def sideTarget (s : State) (c : Completion) (d : Side) : Option Int :=
  let g := s.setup.geometry
  let trim := (s.grade.sides.get d).trim
  match targetAt s c.station with
  | none => none
  | some t =>
    if d = g.refSide then some (t.depth + trim)
    else
      match g.farMode with
      | .slope => (fuseReference g c).depth.map fun m => m + acrossDrum g.width t.slope + trim
      | _ => some (t.depth + acrossDrum g.width t.slope + trim)

/-- The question of a step (R97). -/
def stepQuestion (s : State) (c : Completion) : Question :=
  { x := c.station, v := c.speed, targets := ⟨sideTarget s c .left, sideTarget s c .right⟩ }

/-- The effective target: the smaller of T and E, clamped to 0..3500 (R98). -/
def effectiveTarget (t : Int) (e : Nat) : Int := clamp 0 3500 (min t e)

/-- The error, clamped to -2000..+2000 (R99). -/
def stepError (effective m : Int) : Int := clamp (-2000) 2000 (effective - m)

/-- The magnitude of the raw command (R100). -/
def rawMagnitude (b k : Nat) (e : Int) : Nat := min 1000 (k * (e.natAbs - b))

/-- The raw command from error, deadband and gain (R100). -/
def rawCommand (b k : Nat) (e : Int) : Int :=
  if e.natAbs ≤ b then 0 else if 0 < e then (rawMagnitude b k e : Int) else -(rawMagnitude b k e : Int)

/-- What a step works out for one side. -/
structure SideWork where
  fused : Fused
  target : Option Int
  envelope : Nat
  effective : Option Int
  error : Option Int
  /-- The leg is in AUTO when the step is taken. -/
  auto : Bool
  command : Option Int
  /-- The approach Q of a side in approach: in AUTO after R102 and R104 (R106). -/
  approach : Option Nat
  deriving DecidableEq, Repr

/-- Whether a side is controlled at the step: in AUTO with a reference and a target (R101, R102, R104). -/
def controlled (auto : Bool) (depth target : Option Int) : Bool := auto && depth.isSome && target.isSome

/-- The work of a step for a side, from the state the step is taken in and the Obstacle Table's answer. -/
def sideWork (s : State) (c : Completion) (a : EnvelopeAnswer) (d : Side) : SideWork :=
  let f := fuseSide s.setup.geometry c d
  let t := sideTarget s c d
  let eff := t.map fun t => effectiveTarget t (a.envelope.get d)
  let err := match eff, f.depth with
    | some e, some m => some (stepError e m)
    | _, _ => none
  let auto := (legOf s d).mode == .auto
  let p := s.setup.control
  { fused := f, target := t, envelope := a.envelope.get d, effective := eff, error := err, auto := auto,
    command :=
      if auto then err.map fun e => slewToward p.slew (legOf s d).output (rawCommand p.deadband p.gain e)
      else none,
    approach := if controlled auto f.depth t then a.approach.get d else none }

/-! ## What the step records and hands out -/

def setGradeSide (s : State) (d : Side) (g : GradeSide) : State :=
  s.setGrade { s.grade with sides := s.grade.sides.set d g }

/-- The items of Table 5.2 a step records for a side; the reference-hold mark apart. -/
def GradeSide.recorded (g : GradeSide) (w : SideWork) : GradeSide :=
  { g with
    reference := w.fused.depth.isSome, depth := w.fused.depth.getD g.depth, inUse := w.fused.used,
    lastUsed := if w.fused.used.isSome then w.fused.used else g.lastUsed, target := w.target,
    envelope := w.envelope, effective := w.effective.getD g.effective, error := w.error.getD g.error,
    command := w.command, approach := w.approach.isSome }

def recordSide (s : State) (d : Side) (w : SideWork) : State :=
  setGradeSide s d ((s.grade.sides.get d).recorded w)

/-- REFERENCE_SWITCHED for a side that uses another channel than its last (R91). -/
def noteSwitch (s : State) (x : Nat) (d : Side) (used : Option Channel) : State :=
  match (s.grade.sides.get d).lastUsed, used with
  | some a, some b => if a = b then s else postAt s .referenceSwitched x (.referenceSwitched d a b)
  | _, _ => s

/-- The breach check of one side against one entry (R105). -/
def checkBreach (s : State) (i : BreachItem) (d : Side) (depth : Option Int) : State :=
  match depth with
  | some m =>
    if i.sides.covers d ∧ ((i.cap + i.tolerance : Nat) : Int) < m then
      hand s (.breachMark i.id d m (i.cap + i.tolerance))
    else s
  | none => s

/-- The breach check, in table order, LEFT before RIGHT (R105). -/
def checkBreaches (s : State) (items : List BreachItem) (left right : Option Int) : State :=
  items.foldl (fun s i => checkBreach (checkBreach s i .left left) i .right right) s

/-- Why a side has no reference (R102). -/
def lostCause (g : Geometry) (c : Completion) (d : Side) : LostCause :=
  match sideMode g d with
  | .slope => if (fuseReference g c).depth.isNone then .noReferenceSide else .noSlope
  | _ => .noChannel

def setRefHold (s : State) (d : Side) (b : Bool) : State :=
  setGradeSide s d { s.grade.sides.get d with refHold := b }

/-- Loss of reference and loss of target of a side in AUTO (R102, R104). -/
def noteLoss (s : State) (x : Nat) (d : Side) (w : SideWork) (cause : LostCause) : State :=
  if w.auto then
    match w.fused.depth with
    | none =>
      let other := (s.grade.sides.get d.other).refHold
      let t := postAt (hand (setRefHold s d true) (.referenceLostRequest d)) .referenceLost x
        (.referenceLost d cause)
      if other then t else hand t (.reasonAdd .reference 0)
    | some _ => if w.target.isNone then hand s (.noTargetRequest d) else s
  else s

/-- A reference-hold mark cleared; REFERENCE is withdrawn with the last of them (R103). -/
def clearRefHold (s : State) (d : Side) : State :=
  if (s.grade.sides.get d).refHold then
    let t := setRefHold s d false
    if (s.grade.sides.get d.other).refHold then t else hand t (.reasonWithdraw .reference)
  else s

/-- The mark of a side that has a reference at the step is cleared (R103). -/
def noteReturn (s : State) (d : Side) (w : SideWork) : State :=
  if w.fused.depth.isSome then clearRefHold s d else s

/-- The command handed to the Leg Drive, for a controlled side (R101). -/
def handCommand (s : State) (d : Side) (w : SideWork) : State :=
  match w.command with
  | some u => hand s (.legCommand d u)
  | none => s

/-- The ramp cap of a side in approach (R106). -/
def rampCap (rate q : Nat) : Nat := max 1 (rate / q)

/-- The RAMP cap of the step: the smaller of the caps of the sides in approach; none with no such side. -/
def stepCap (p : Setup) (q : Sides (Option Nat)) : Option Nat :=
  match q.left, q.right with
  | some a, some b => some (min (rampCap p.legs.left.rate a) (rampCap p.legs.right.rate b))
  | some a, none => some (rampCap p.legs.left.rate a)
  | none, some b => some (rampCap p.legs.right.rate b)
  | none, none => none

/-- RAMP added, re-capped or withdrawn, with RAMP_LIMITED when it is added (R106, R107). -/
def settleRamp (s : State) (x : Nat) (q : Sides (Option Nat)) : State :=
  match stepCap s.setup q with
  | some cap =>
    let t := hand (s.setGrade { s.grade with ramp := some cap }) (.reasonAdd .ramp cap)
    if s.grade.ramp.isSome then t else postAt t .rampLimited x (.rampLimited q cap)
  | none =>
    if s.grade.ramp.isSome then hand (s.setGrade { s.grade with ramp := none }) (.reasonWithdraw .ramp) else s

/-! ## The cut report (R108 to R111) -/

/-- What a side contributes to the volume depth (R108). -/
def contribution (m : Int) : Nat := m.toNat

/-- The volume depth and its kind (R108). -/
def volumeDepth (left right : Option Int) : DepthKind × Nat :=
  match left, right with
  | some a, some b => (.both, roundDivNat (contribution a + contribution b) 2)
  | some a, none => (.one, contribution a)
  | none, some b => (.one, contribution b)
  | none, none => (.noDepth, 0)

/-- The step's travel: signed from the base station; 0 with no base, or when Set Station was accepted during
the scan (R109). -/
def stepTravel (base : Option Nat) (c : Completion) : Int :=
  match base with
  | some b => if c.stationSet then 0 else (c.station : Int) - b
  | none => 0

/-- The bank volume in mm3 (R110). -/
def bankVolume (width depth : Nat) (travel : Int) : Nat := width * depth * travel.natAbs

/-- The sum that is divided by 100 into the loose volume and the new remainder (R110). -/
def looseSum (bank swell remainder : Nat) : Nat := bank * swell + remainder

/-- The loose rate in mm3/s (R111). -/
def looseRate (width depth : Nat) (v : Int) (swell : Nat) : Nat :=
  roundDivNat (width * depth * v.natAbs * swell) 100

/-- The cut report of a step (R111). -/
def buildReport (p : Setup) (base : Option Nat) (remainder : Nat) (c : Completion)
    (depth : DepthKind × Nat) : CutReport :=
  let travel := stepTravel base c
  let bank := bankVolume p.geometry.width depth.2 travel
  { sequence := c.sequence, station := c.station, travel := travel, kind := depth.1, depth := depth.2,
    bank := bank, loose := looseSum bank p.control.swell remainder / 100,
    rate := looseRate p.geometry.width depth.2 c.speed p.control.swell }

/-- The report handed, with the new base station and remainder (R109 to R111). -/
def reportCut (s : State) (c : Completion) (left right : Option Int) : State :=
  let r := buildReport s.setup s.grade.base s.grade.remainder c (volumeDepth left right)
  hand
    (s.setGrade
      { s.grade with
        base := if c.stationSet then none else some c.station,
        remainder := looseSum r.bank s.setup.control.swell s.grade.remainder % 100 })
    (.cutReport r)

/-! ## The control step (R87) -/

/-- The step's notices and hand-outs for the sides, the reference side before the far side where both post
the same class (log 18); a lost reference sets its mark before a returned one clears its own (log 19). -/
def settleSides (s : State) (c : Completion) (w : Sides SideWork) : State :=
  let g := s.setup.geometry
  let r := g.refSide
  let f := g.refSide.other
  let s := noteLoss s c.station r (w.get r) (lostCause g c r)
  let s := noteLoss s c.station f (w.get f) (lostCause g c f)
  let s := noteReturn (noteReturn s r (w.get r)) f (w.get f)
  handCommand (handCommand s .left w.left) .right w.right

/-- REFERENCE_SWITCHED of both sides, the reference side first (R91; log 18). -/
def noteSwitches (s : State) (c : Completion) : State :=
  let g := s.setup.geometry
  noteSwitch (noteSwitch s c.station g.refSide (fuseReference g c).used) c.station g.refSide.other
    (fuseFar g c).used

/-- One control step, taken whole, in the order of its stages (R87). -/
def controlStep (s : State) (c : Completion) : State :=
  let q := askEnvelope (noteSwitches s c) (stepQuestion s c)
  let w : Sides SideWork := ⟨sideWork s c q.2 .left, sideWork s c q.2 .right⟩
  let t := checkBreaches q.1 q.2.inside w.left.fused.depth w.right.fused.depth
  let t := recordSide (recordSide t .left w.left) .right w.right
  let t := settleSides t c w
  let t := settleRamp t c.station ⟨w.left.approach, w.right.approach⟩
  reportCut t c w.left.fused.depth w.right.fused.depth

/-! ## Reports and events taken (R103, R107, R110) -/

/-- LEFT_AUTO_REPORT: the side's approach mark is cleared, and RAMP withdrawn when both are clear (R107). -/
def takeLeftAuto (s : State) (d : Side) : State :=
  let t := setGradeSide s d { s.grade.sides.get d with approach := false }
  if (s.grade.sides.get d.other).approach = false ∧ s.grade.ramp.isSome then
    hand (t.setGrade { t.grade with ramp := none }) (.reasonWithdraw .ramp)
  else t

def execLeftAutoReport (d : Side) (s : State) : Host.Outcome State Fault Refusal :=
  .next (takeLeftAuto (takeHanded s (.leftAutoReport d)) d)

/-- LEFT_HOLD_REPORT: the side's reference-hold mark is cleared (R103). -/
def execLeftHoldReport (d : Side) (s : State) : Host.Outcome State Fault Refusal :=
  .next (clearRefHold (takeHanded s (.leftHoldReport d)) d)

/-- CLEAR_REMAINDER (R110, R141). -/
def execClearRemainder (s : State) : Host.Outcome State Fault Refusal :=
  let t := takeHanded s .clearRemainder
  .next (t.setGrade { t.grade with remainder := 0 })

/-! ## Set Trim (R112) -/

/-- A trim as Set Trim leaves it: an absent field keeps it, a present value is clamped. -/
def newTrim (old : Int) (present : Bool) (v : BitVec 16) : Int := if present then clamp (-300) 300 v.toInt else old

/-- Whether Set Trim clamps a value: it is present and outside -300..+300. -/
def trimClamped (present : Bool) (v : BitVec 16) : Bool := present && decide (clamp (-300) 300 v.toInt ≠ v.toInt)

/-- Set Trim; presence bit 0 LEFT, bit 1 RIGHT (R112, file 10 section 10.8). -/
def takeSetTrim (presence : Byte) (left right : BitVec 16) (s : State) : State × Answer :=
  let l := newTrim s.grade.sides.left.trim (presence.getLsbD 0) left
  let r := newTrim s.grade.sides.right.trim (presence.getLsbD 1) right
  (s.setGrade
    { s.grade with sides := ⟨{ s.grade.sides.left with trim := l }, { s.grade.sides.right with trim := r }⟩ },
    answer (if trimClamped (presence.getLsbD 0) left || trimClamped (presence.getLsbD 1) right then .clamped else .done)
      [signed2 l, signed2 r])

end Sys2Proof.Machine
end

