-- ==== Sys2Proof/Machine/Scanner.lean ====
section
/-! DEFINITION. The Channel Scanner (file 02): triggers, scans, parking, channel processing and the scan
requests. -/

namespace Sys2Proof.Machine

open Sys2Proof

/-! ## Channel processing (R32 to R36) -/

/-- Range check (R32): 9 to 4086 is in range. -/
def inRange (r : Nat) : Bool := decide (9 ≤ r ∧ r ≤ 4086)

/-- Calibration, stage 3 (R33). -/
def calibrate (p : ChannelSetup) (r : Nat) : Nat := (clamp 0 4095 (r + roundDiv ((r : Int) * p.gain) 16384 + p.offset)).toNat

/-- Scaling, stage 4 (R34). -/
def scale (p : ChannelSetup) (c : Nat) : Int := roundDiv (((c : Int) - 2048) * p.span) 2048 + p.mount

/-- A run that holds at 255 (R32). -/
def holdRun (n : Nat) : Nat := min 255 (n + 1)

/-- What a sample does beside its record: the notices of R32 and R36. -/
inductive SampleEvent where
  | quiet
  | entersFault
  | recovers
  deriving DecidableEq, Repr

/-- A sample out of range (R32). -/
def sampleOut (rec : ChannelRecord) (r : Nat) : ChannelRecord × SampleEvent :=
  let t := { rec with raw := r, outRun := holdRun rec.outRun, goodRun := 0 }
  if 3 ≤ rec.outRun + 1 ∧ rec.state ≠ .fault then ({ t with state := .fault, spikeRun := 0 }, .entersFault)
  else (t, .quiet)

/-- The candidate taken as the accepted value (R35). -/
def ChannelRecord.accept (rec : ChannelRecord) (v : Int) : ChannelRecord :=
  { rec with value := v, spikeRun := 0, state := .valid }

/-- A sample out of limit on a side: the fourth of a run on one side is accepted, others are held off (R35). -/
def ChannelRecord.offLimit (rec : ChannelRecord) (v : Int) (side : SpikeSide) : ChannelRecord :=
  let run := if 0 < rec.spikeRun ∧ rec.spikeSide = side then rec.spikeRun + 1 else 1
  if 4 ≤ run then rec.accept v
  else { rec with spikeRun := run, spikeSide := side, state := .spikeHeld }

/-- The spike filter, stage 2, of a channel that holds an accepted value (R35). -/
def spikeFilter (limit : Nat) (rec : ChannelRecord) (v : Int) : ChannelRecord :=
  if limit = 0 ∨ (v - rec.value).natAbs ≤ limit then rec.accept v
  else rec.offLimit v (if rec.value < v then .above else .below)

/-- A sample in range, once its candidate value is known (R35, R36). -/
def judgeSample (limit : Nat) (rec : ChannelRecord) (v : Int) : ChannelRecord × SampleEvent :=
  match rec.state with
  | .stale => (rec.accept v, .quiet)
  | .fault =>
    if 5 ≤ rec.goodRun then (rec.accept v, .recovers) else ({ rec with value := v, spikeRun := 0 }, .quiet)
  | _ => (spikeFilter limit rec v, .quiet)

/-- A sample in range: runs, calibration, scaling, filter (R32 to R36). -/
def sampleIn (p : ChannelSetup) (rec : ChannelRecord) (r : Nat) : ChannelRecord × SampleEvent :=
  let c := calibrate p r
  judgeSample p.spike
    { rec with raw := r, calibrated := c, outRun := 0, goodRun := holdRun rec.goodRun } (scale p c)

/-- One sample through the channel processing (section 2.3). -/
def processSample (p : ChannelSetup) (rec : ChannelRecord) (r : Nat) : ChannelRecord × SampleEvent :=
  if inRange r then sampleIn p rec r else sampleOut rec r

def setRecord (s : State) (c : Channel) (rec : ChannelRecord) : State :=
  s.setScanner { s.scanner with records := s.scanner.records.set c rec }

/-- One channel's sample processed, its record written and its notice posted (R25, R32, R36). -/
def processChannel (s : State) (c : Channel) (r : Nat) : State :=
  let q := processSample (s.setup.channels.get c) (s.scanner.records.get c) r
  let t := setRecord s c q.1
  match q.2 with
  | .quiet => t
  | .entersFault => post t .channelFault (.channelFault c r)
  | .recovers => post t .channelRecovered (.channelRecovered c)

/-- The raw counts of the listed channels, in list order, in the in-flight sample buffer (R24; log 13). -/
def fillBuffer (s : State) (raw : Octet (BitVec 12)) : State :=
  s.setScanner { s.scanner with samples := s.setup.scan.list.map raw.get }

/-- The buffered samples processed in list order, and the buffer emptied (R25). -/
def processBuffer (s : State) : State :=
  let t := (s.setup.scan.list.zip s.scanner.samples).foldl (fun s q => processChannel s q.1 q.2.toNat) s
  t.setScanner { t.scanner with samples := [] }

/-! ## Scans (R24 to R26) -/

/-- A scan begins (R24). -/
def startScan (s : State) (kind : TriggerKind) (station : Nat) : State :=
  s.setScanner
    { s.scanner with
      state := .scanning, taken := wrap16 s.scanner.taken,
      inFlight := some { kind := some kind, station := station, speed := s.travel.speed, stationSet := false } }

/-- A trigger is dropped (R26). -/
def dropTrigger (s : State) (kind : TriggerKind) : State :=
  post (s.setScanner { s.scanner with dropped := wrap16 s.scanner.dropped }) .scanOverrun
    (.scanOverrun kind s.scanner.state)

/-- SETTLING is entered, and the settle timer started (R20, R21, R28). -/
def enterSettling (s : State) : State :=
  s.setScanner { s.scanner with state := .settling, settleTimer := some s.setup.scan.settle }

/-- A travel trigger taken in DISTANCE mode (the table of R22). -/
def takeTravelTrigger (s : State) (kind : TriggerKind) (station : Nat) : State :=
  match s.scanner.state with
  | .stopped => s
  | .settling => dropTrigger s kind
  | .armed => startScan s kind station
  | .scanning => dropTrigger s kind
  | .parked => if kind = .distance then enterSettling s else s
  | .single => dropTrigger s kind

/-- A travel trigger taken: in INTERVAL mode it is ignored (R22). -/
def takeTrigger (s : State) (kind : TriggerKind) (station : Nat) : State :=
  match s.setup.scan.mode, kind with
  | .distance, .distance => takeTravelTrigger s .distance station
  | .distance, .standstill => takeTravelTrigger s .standstill station
  | .distance, .interval => s
  | .interval, _ => s

/-- TRIGGER_TAKEN (R22). -/
def execTriggerTaken (kind : TriggerKind) (station : Nat) (s : State) : Host.Outcome State Fault Refusal :=
  .next (takeTrigger (takeHanded s (.triggerTaken kind station)) kind station)

/-- INTERVAL_TIMER_EXPIRY (R23); of no effect while the timer is stopped (log 4). -/
def takeIntervalExpiry (s : State) : State :=
  match s.scanner.intervalTimer with
  | none => s
  | some _ =>
    let t := s.setScanner { s.scanner with intervalTimer := some (scanInterval s.setup) }
    match s.scanner.state with
    | .armed => startScan t .interval s.travel.station
    | .scanning => dropTrigger t .interval
    | _ => t

def execIntervalTimerExpiry (s : State) : Host.Outcome State Fault Refusal := .next (takeIntervalExpiry s)

/-- SETTLE_TIMER_EXPIRY (R21); of no effect while the timer is stopped (log 4). -/
def execSettleTimerExpiry (s : State) : Host.Outcome State Fault Refusal :=
  .next
    (match s.scanner.settleTimer with
    | none => s
    | some _ =>
      s.setScanner
        { s.scanner with
          state := .armed, settleTimer := none,
          intervalTimer := if s.setup.scan.mode = .interval then some (scanInterval s.setup) else none })

/-! ## Parking (R27, R28) -/

/-- The states in which the park timer runs: SETTLING, ARMED, SCANNING (R27). -/
def parkable (k : ScanState) : Bool :=
  match k with
  | .settling => true
  | .armed => true
  | .scanning => true
  | _ => false

/-- The park timer as it starts: in DISTANCE mode with a park time above 0, in ms (R27). -/
def parkStart (p : ScanSetup) : Option Nat := if p.mode = .distance ∧ 0 < p.park then some (p.park * 1000) else none

/-- PARKED is entered: the settle and park timers stop and the mark is cleared (R27, R28). -/
def enterParked (s : State) : State :=
  s.setScanner { s.scanner with state := .parked, settleTimer := none, parkTimer := none, parkDue := false }

/-- The scanner parks: at once from SETTLING or ARMED, at the end of the scan in flight from SCANNING (R28). -/
def park (s : State) : State :=
  match s.scanner.state with
  | .settling => enterParked s
  | .armed => enterParked s
  | .scanning => s.setScanner { s.scanner with parkDue := true }
  | _ => s

/-- PARK_TIMER_EXPIRY (R27); of no effect while the timer is stopped (log 4). -/
def execParkTimerExpiry (s : State) : Host.Outcome State Fault Refusal :=
  .next
    (match s.scanner.parkTimer with
    | none => s
    | some _ =>
      let t := s.setScanner { s.scanner with parkTimer := none }
      if anyAuto t then t.setScanner { t.scanner with parkDue := true } else park t)

/-- The report that the last leg has left AUTO, taken (R27; log 17). -/
def takeNoLegAuto (s : State) : State :=
  if s.scanner.parkDue ∧ s.travel.standstill ∧ anyAuto s = false then park s else s

/-- NO_LEG_AUTO_REPORT (R27). -/
def execNoLegAutoReport (s : State) : Host.Outcome State Fault Refusal :=
  .next (takeNoLegAuto (takeHanded s .noLegAutoReport))

/-- The standstill begin event taken: the park timer starts (R27). -/
def takeStandstillBegin (s : State) : State :=
  if parkable s.scanner.state ∧ (parkStart s.setup.scan).isSome then
    s.setScanner { s.scanner with parkTimer := parkStart s.setup.scan }
  else s

/-- STANDSTILL_BEGIN_EVENT (R27). -/
def execStandstillBeginEvent (s : State) : Host.Outcome State Fault Refusal :=
  .next (takeStandstillBegin (takeHanded s .standstillBeginEvent))

/-- The standstill end event taken: the park timer stops, the mark is cleared, PARKED wakes (R27, R28). -/
def takeStandstillEnd (s : State) : State :=
  let t := s.setScanner { s.scanner with parkTimer := none, parkDue := false }
  if s.scanner.state = .parked then enterSettling t else t

/-- STANDSTILL_END_EVENT (R27, R28). -/
def execStandstillEndEvent (s : State) : Host.Outcome State Fault Refusal :=
  .next (takeStandstillEnd (takeHanded s .standstillEndEvent))

/-! ## The end of a scan or a pass (R25, R30) -/

/-- The copies a scan completion carries, in list order (R25). -/
def completionResults (s : State) : List ChannelCopy :=
  s.setup.scan.list.map fun c =>
    { channel := c, kind := (s.setup.channels.get c).kind, record := s.scanner.records.get c }

/-- The scan completion of a scan that has ended (R25). -/
def completionOf (s : State) (f : ScanInFlight) : Completion :=
  { sequence := s.scanner.completed, kind := f.kind, station := f.station, speed := f.speed,
    stationSet := f.stationSet, results := completionResults s }

/-- After the completion: PARKED when the mark is set and no leg is in AUTO, else ARMED, the mark kept (R25). -/
def leaveScanning (s : State) : State :=
  if s.scanner.parkDue ∧ anyAuto s = false then enterParked s
  else s.setScanner { s.scanner with state := .armed }

/-- A continuous scan ends: records, completion, control step, next state (R25, R87). -/
def endScan (s : State) (f : ScanInFlight) (raw : Octet (BitVec 12)) : State :=
  let t := processBuffer (fillBuffer s raw)
  let t := t.setScanner { t.scanner with completed := wrap16 t.scanner.completed, inFlight := none }
  leaveScanning (controlStep t (completionOf t f))

/-- SCAN_END (R25); of no effect with no continuous scan in flight (log 4). -/
def execScanEnd (raw : Octet (BitVec 12)) (s : State) : Host.Outcome State Fault Refusal :=
  .next
    (match s.scanner.state, s.scanner.inFlight with
    | .scanning, some f => endScan s f raw
    | _, _ => s)

/-- The single pass ends: records written, no completion, STOPPED (R30). -/
def endPass (s : State) (raw : Octet (BitVec 12)) : State :=
  let t := processBuffer (fillBuffer s raw)
  t.setScanner { t.scanner with state := .stopped, inFlight := none }

/-- SINGLE_PASS_END (R30); of no effect with no pass in flight (log 4). -/
def execSinglePassEnd (raw : Octet (BitVec 12)) (s : State) : Host.Outcome State Fault Refusal :=
  .next (if s.scanner.state = .single then endPass s raw else s)

/-! ## Requests (R20, R29 to R31) -/

/-- The first check of R20 that Start Scan fails, as its refusal. -/
def startScanRefusal (s : State) : Option Answer :=
  if s.scanner.state ≠ .stopped then some (refuse .notAllowed .running)
  else if s.setup.scan.list.isEmpty then some (refuse .notAllowed .emptyList)
  else if s.setup.scan.mode = .interval ∧ scanInterval s.setup < scanDuration s.setup then
    some (refuse .badField .interval)
  else none

/-- The scanner as an accepted Start Scan leaves it (R20, R27). -/
def beginScanning (s : State) : State :=
  let t := enterSettling (s.setScanner { s.scanner with taken := 0, dropped := 0, completed := 0 })
  if s.travel.standstill then t.setScanner { t.scanner with parkTimer := parkStart s.setup.scan } else t

/-- Start Scan (R20); the Grade Computation makes its base station absent (R109). -/
def takeStartScan (s : State) : State × Answer :=
  match startScanRefusal s with
  | some a => (s, a)
  | none =>
    ((beginScanning s).setGrade { s.grade with base := none }, answer .done [u8 (scanDuration s.setup)])

/-- A record made STALE, with its runs at 0 (R36). -/
def ChannelRecord.staled (rec : ChannelRecord) : ChannelRecord :=
  { rec with state := .stale, outRun := 0, goodRun := 0, spikeRun := 0 }

/-- The scanner as an accepted Stop Scan leaves it (R29). -/
def Scanner.stoppedByHost (k : Scanner) : Scanner :=
  { k with
    state := .stopped, records := k.records.map ChannelRecord.staled, settleTimer := none,
    intervalTimer := none, parkTimer := none, parkDue := false, inFlight := none, samples := [] }

/-- Stop Scan (R29). -/
def takeStopScan (s : State) : State × Answer :=
  if anyAuto s then (s, refuse .notAllowed .legAuto)
  else (s.setScanner s.scanner.stoppedByHost, answer .done [])

/-- The first check of R30 that Single Scan fails, as the refusal's detail. -/
def singleScanRefusal (s : State) : Option DetailCode :=
  if s.scanner.state ≠ .stopped then some .running
  else if s.setup.scan.list.isEmpty then some .emptyList
  else none

/-- Single Scan (R30). -/
def takeSingleScan (s : State) : State × Answer :=
  match singleScanRefusal s with
  | some d => (s, refuse .notAllowed d)
  | none =>
    (s.setScanner
      { s.scanner with
        state := .single,
        inFlight := some { kind := none, station := s.travel.station, speed := s.travel.speed, stationSet := false } },
      answer .done [u8 (scanDuration s.setup)])

/-- The side byte of a record's spike run; with a run of 0 a free value (log 12). -/
def ChannelRecord.sideCode (rec : ChannelRecord) : Nat :=
  if rec.spikeRun = 0 then Config.sideOfNoSpike.toNat else rec.spikeSide.code

/-- A result record as Read Channels sends it (Table 2.5). -/
def ChannelRecord.fields (rec : ChannelRecord) (kind : ChannelKind) : List Field :=
  [u8 kind.code, field2 rec.raw, field2 rec.calibrated, signed2 rec.value, u8 rec.state.code, u8 rec.outRun,
   u8 rec.goodRun, u8 rec.spikeRun, u8 rec.sideCode]

/-- A side's items of Table 5.2 as Read Channels sends them (R31). -/
def GradeSide.fields (g : GradeSide) : List Field :=
  [flag g.reference, signed2 g.depth] ++ optionalChannel g.inUse ++ optional 2 g.target ++
    [field2 g.envelope, signed2 g.effective, signed2 g.error] ++ optional 2 g.command

/-- Read Channels (R31). -/
def takeReadChannels (s : State) : State × Answer :=
  let k := s.scanner
  (s, answer .done
    ([u8 k.state.code, u8 s.setup.scan.mode.code, flag k.parkDue, field2 k.taken, field2 k.dropped,
      field2 k.completed] ++
      allChannels.flatMap (fun c => (k.records.get c).fields (s.setup.channels.get c).kind) ++
      s.grade.sides.left.fields ++ s.grade.sides.right.fields))

end Sys2Proof.Machine
end

