-- ==== Sys2Proof/Machine/Inputs.lean ====
section
/-! DEFINITION. The Machine Inputs, the Advance Limit's events and Release Hold, and the Supply Watch
(file 08). -/

namespace Sys2Proof.Machine

open Sys2Proof

/-! ## The switch filter (R153) -/

/-- Whether a contact reads as active: closed, but open for the stop sense loop (Table 8.1). -/
def readsActive (k : SwitchInput) (closed : Bool) : Bool :=
  match k with
  | .stopSense => !closed
  | _ => closed

/-- The accepted level a sample stands for. -/
def levelOfSample (active : Bool) : Level := if active then .active else .inactive

/-- The change run after a sample: against the accepted level, or against the sample before it while the
accepted level is UNKNOWN (R153). -/
def nextRun (f : InputFilter) (active : Bool) : Nat :=
  match f.accepted with
  | .unknown => if f.last = some active then f.run + 1 else 1
  | l => if l = levelOfSample active then 0 else f.run + 1

/-- One input at one sample, and whether a level is accepted at it (R153). -/
def filterSample (f : InputFilter) (active : Bool) : InputFilter × Bool :=
  let n := nextRun f active
  if 3 ≤ n then ({ accepted := levelOfSample active, run := 0, last := some active }, true)
  else ({ f with run := n, last := some active }, false)

/-- An accepted change of an input: its new level, and whether it was ACTIVE before. -/
structure InputChange where
  input : SwitchInput
  active : Bool
  wasActive : Bool
  deriving DecidableEq, Repr

/-! ## What the receivers do (R127, R143, R155, R156) -/

/-- The stop sense active event and its four receivers (R155). That they take it in one run, in the order of the
table of R155, is the model's choice, log 43. -/
def stopSenseActive (s : State) : State :=
  let t := legsStopSense s
  let t := evaluateBelt (t.setConveyor { t.conveyor with stopSense := true, mode := .stop })
  post (hand t (.reasonAdd .stopSense 0)) .stopSense .stopSense

/-- The stop sense release event and its three receivers (R156; log 43). -/
def stopSenseRelease (s : State) : State :=
  let t := s.setLegs { s.legs with stopSense := false }
  let t := evaluateBelt (t.setConveyor { t.conveyor with stopSense := false })
  hand t (.reasonWithdraw .stopSense)

/-- An accepted change handed to the receivers of its input (Table 8.1, R153 to R156). -/
def takeChange (s : State) (c : InputChange) : State :=
  match c.input with
  | .presence => presenceChange s c.active
  | .leftUpper => limitChange s .left .upper c.active
  | .leftLower => limitChange s .left .lower c.active
  | .rightUpper => limitChange s .right .upper c.active
  | .rightLower => limitChange s .right .lower c.active
  | .stopSense => if c.active then stopSenseActive s else if c.wasActive then stopSenseRelease s else s

/-- A change that can post a notice: a limit or stop sense becoming active, a truck leaving. The others
leave the same state in whatever order they are taken. -/
def InputChange.posts (c : InputChange) : Bool :=
  match c.input with
  | .presence => !c.active
  | _ => c.active

/-- A list with x put in at place n. -/
def insertAt {α : Type} (n : Nat) (x : α) (xs : List α) : List α := xs.take n ++ x :: xs.drop n

/-- The permutation of a list that a number stands for; every permutation has its number. -/
def permute {α : Type} (n : Nat) : List α → List α
  | [] => []
  | x :: xs => insertAt (n % (xs.length + 1)) x (permute (n / (xs.length + 1)) xs)

/-- The changes of one sample taken: the quiet ones, then those that can post, two or more of which stand in
an order the spec leaves open (R153, R155; log 7). -/
def takeChanges (s : State) (changes : List InputChange) : State :=
  let t := (changes.filter fun c => !c.posts).foldl takeChange s
  let loud := changes.filter InputChange.posts
  if 2 ≤ loud.length then
    (permute (Config.switchOrder s.freeCount) loud).foldl takeChange (t.setFreeCount (s.freeCount + 1))
  else loud.foldl takeChange t

/-- The change of one input at a sample, if its level is accepted there. -/
def changeOf (fs : PerInput InputFilter) (closed : PerInput Bool) (k : SwitchInput) : Option InputChange :=
  let active := readsActive k (closed.get k)
  if (filterSample (fs.get k) active).2 then
    some { input := k, active := active, wasActive := (fs.get k).accepted == .active }
  else none

/-- One input's filter after a sample. -/
def filtered (fs : PerInput InputFilter) (closed : PerInput Bool) (k : SwitchInput) : InputFilter :=
  (filterSample (fs.get k) (readsActive k (closed.get k))).1

/-- The six inputs sampled together (R153). -/
def sampleInputs (fs : PerInput InputFilter) (closed : PerInput Bool) : PerInput InputFilter :=
  { presence := filtered fs closed .presence, leftUpper := filtered fs closed .leftUpper,
    leftLower := filtered fs closed .leftLower, rightUpper := filtered fs closed .rightUpper,
    rightLower := filtered fs closed .rightLower, stopSense := filtered fs closed .stopSense }

/-- The accepted changes of a sample, in the order of Table 8.1. -/
def acceptedChanges (fs : PerInput InputFilter) (closed : PerInput Bool) : List InputChange :=
  SwitchInput.all.filterMap (changeOf fs closed)

/-- SWITCH_SAMPLE (R153). -/
def execSwitchSample (closed : PerInput Bool) (s : State) : Host.Outcome State Fault Refusal :=
  .next (takeChanges (s.setInputs (sampleInputs s.inputs closed)) (acceptedChanges s.inputs closed))

/-! ## Supply Watch (R161, R162, R186) -/

/-- The measurement in tenths of a volt, rounded down and clamped to 0..400 (R161). -/
def supplyTenths (millivolts : Nat) : Nat := min 400 (millivolts / 100)

/-- The supply fall event and its receivers (R162), in one run (log 43). -/
def supplyFall (s : State) (m : Nat) : State :=
  let t := legsSupplyFall s
  let t := evaluateBelt (t.setConveyor { t.conveyor with supplyLow := true })
  post (hand t (.reasonAdd .supply 0)) .supplyLow (.supplyLow m)

/-- The supply rise event and its receivers (R162), in one run (log 43). -/
def supplyRise (s : State) : State :=
  let t := s.setLegs { s.legs with supplyLow := false }
  let t := evaluateBelt (t.setConveyor { t.conveyor with supplyLow := false })
  hand t (.reasonWithdraw .supply)

/-- The supply good event taken by the Setup Store (R186). -/
def supplyGood (s : State) : State :=
  match s.store.phase with
  | .supplyWait => s.setStore { s.store with phase := .settle }
  | .settle => s.setStore { s.store with phase := .settle }
  | _ => s

/-- The state the measurement moves the Supply Watch to (the table of R161). -/
def nextSupply (old : SupplyState) (p : SupplyPair) (m : Nat) : SupplyState :=
  if m < p.lower then .low else if p.upper < m then .normal else old

/-- A measurement judged against the pair held (R161). -/
def takeMeasurement (s : State) (m : Nat) : State :=
  let old := s.supply.state
  let new := nextSupply old s.setup.limits.pair m
  let t := s.setSupply { state := new, last := m }
  match old, new with
  | .start, .low => supplyFall t m
  | .normal, .low => supplyFall t m
  | .start, .normal => supplyGood t
  | .low, .normal => supplyGood (supplyRise t)
  | _, _ => t

/-- SUPPLY_MEASUREMENT (R161); of no effect before the setup is loaded (R185; log 27). -/
def execSupplyMeasurement (millivolts : Nat) (s : State) : Host.Outcome State Fault Refusal :=
  .next (if s.store.phase = .load then s else takeMeasurement s (supplyTenths millivolts))

/-! ## Advance Limit (R157) -/

/-- REASON_ADD (R157). -/
def execReasonAdd (r : HoldReason) (cap : Nat) (s : State) : Host.Outcome State Fault Refusal :=
  .next (addReason (takeHanded s (.reasonAdd r cap)) r cap)

/-- REASON_WITHDRAW (R157). -/
def execReasonWithdraw (r : HoldReason) (s : State) : Host.Outcome State Fault Refusal :=
  .next (withdrawReason (takeHanded s (.reasonWithdraw r)) r)

/-- PROGRAM_END_AHEAD (R157). -/
def execProgramEndAhead (s : State) : Host.Outcome State Fault Refusal :=
  .next (withdrawReason (takeHanded s .programEndAhead) .programEnd)

/-! ## Release Hold (R160) -/

/-- A reason of latched kind (Table 8.4). -/
def reasonLatched : HoldReason → Bool
  | .breach => true
  | .programEnd => true
  | _ => false

/-- A side's depth as the breach test takes it: the last step's, when the reference item is yes (R160). -/
def testDepth (g : GradeSide) : Option Int := if g.reference then some g.depth else none

/-- The breach test at the live station (R83, R160). -/
def breachStands (s : State) : Bool :=
  breachTest s s.travel.station ⟨testDepth s.grade.sides.left, testDepth s.grade.sides.right⟩

/-- The reasons present as bits, bit 0 SUPPLY to bit 7 STARTUP (Table 10.10). -/
def presenceBits (holds : PerReason (Option Nat)) : Nat :=
  (HoldReason.all.map fun r => if (holds.get r).isSome then 2 ^ holdReasonCode r else 0).sum

/-- The presence bits and the RAMP cap (Table 10.10, Note; log 32). -/
def reasonFields (holds : PerReason (Option Nat)) : List Field :=
  [u8 (presenceBits holds), field2 (holds.ramp.getD 0)]

/-- Checks 2 to 4 of R160, as the refusal. -/
def releaseRefusal (s : State) (r : HoldReason) : Option Answer :=
  if !reasonLatched r then some (refuse .notAllowed .level)
  else if (s.advance.holds.get r).isNone then some (refuseValue .notFound (holdReasonCode r))
  else if r = .breach ∧ breachStands s then some (refuseValue .notClear s.travel.station)
  else none

/-- Release Hold (R160). -/
def takeReleaseHold (reason : Byte) (s : State) : State × Answer :=
  match holdReasonOfCode reason.toNat with
  | none => (s, refuse .badField .reason)
  | some r =>
    match releaseRefusal s r with
    | some a => (s, a)
    | none =>
      let t := withdrawReason s r
      (t, answer .done ([field2 t.advance.speedCap, flag t.advance.permit] ++ reasonFields t.advance.holds))

end Sys2Proof.Machine
end

