-- ==== Sys2Proof/Machine/Notices.lean ====
section
/-! DEFINITION. The status record and the status requests (file 09 section 9.3, file 10 Table 10.10). -/

namespace Sys2Proof.Machine

open Sys2Proof

/-- The direction the status record shows: FORWARD 0, REVERSE 1, STANDSTILL 2 (Table 9.2, R6). -/
def directionCode (t : Travel) : Nat :=
  if t.standstill then 2
  else
    match t.dir with
    | .forward => 0
    | .reverse => 1

/-- The current segment id, 0 for EMPTY and BEFORE (Table 9.2, R65). -/
def currentId (s : State) : Nat :=
  match (position s).segment with
  | some g => g.id
  | none => 0

/-- The latched flags, bit n - 1 for class n (Table 10.10). -/
def flagBits (f : PerClass Bool) : Nat :=
  (NoticeClass.all.map fun c => if f.get c then 2 ^ (classNumber c - 1) else 0).sum

/-- Bit 0 transfer phase open, bit 1 store in progress (Table 10.10). -/
def activityBits (s : State) : Nat :=
  (if s.program.transfer.isSome then 1 else 0) + (if s.store.storing.isSome then 2 else 0)

/-- The 35 bytes of the status record, as the state stands (R169, Table 10.10). -/
def statusFields (s : State) : List Field :=
  let segs := s.program.segments
  let x := s.travel.station
  [u8 (legOf s .left).mode.code, u8 (legOf s .right).mode.code, u8 s.scanner.state.code, field3 x,
   signed2 s.travel.speed, u8 (directionCode s.travel), field2 (currentId s), u8 (position s).code,
   u8 (remainingCount segs x), u8 (behindCount segs x), u8 s.obstacles.length, u8 s.conveyor.mode.code,
   u8 s.conveyor.belt.code, u8 s.conveyor.truck.code, field2 s.conveyor.truckNumber,
   field4 (housingLitres s.conveyor.housing), field2 s.advance.speedCap] ++
    reasonFields s.advance.holds ++
  [field2 s.supply.last, u8 (activityBits s), field3 (flagBits s.notices.latched)]

/-- Read Status: record, flags cleared, lasting conditions set again (R167). -/
def takeReadStatus (s : State) : State × Answer :=
  (s.setNotices { s.notices with latched := relatch s }, answer .done (statusFields s))

/-- Peek Status (R168). -/
def takePeekStatus (s : State) : State × Answer := (s, answer .done (statusFields s))

end Sys2Proof.Machine
end

