-- ==== Sys2Proof/Machine/Setup.lean ====
section
/-! DEFINITION. The Setup Store (file 11): Write Setup and Read Setup of the seventeen groups, Store Setup,
the load and the start-up phases, and the full reset. -/

namespace Sys2Proof.Machine

open Sys2Proof

/-! ## The groups on the wire (Table 11.1) -/

def word16 (n : Nat) : BitVec 16 := BitVec.ofNat 16 n
def signed16 (n : Int) : BitVec 16 := BitVec.ofInt 16 n
def byte (n : Nat) : Byte := BitVec.ofNat 8 n

def Geometry.wire (g : Geometry) : GeometryWire :=
  { width := word16 g.width, refSide := byte (sideCode g.refSide), refMode := byte g.refMode.code,
    farMode := byte g.farMode.code, refCount := byte g.refGroup.count, refSlots := g.refGroup.slots,
    farCount := byte g.farGroup.count, farSlots := g.farGroup.slots, slopeChannel := byte g.slopeChannel.val,
    pulses := word16 g.pulses, sense := byte g.sense.code }

def ChannelSetup.wire (g : ChannelSetup) : ChannelWire :=
  { kind := byte g.kind.code, gain := signed16 g.gain, offset := signed16 g.offset, span := word16 g.span,
    mount := signed16 g.mount, spike := word16 g.spike }

def Control.wire (g : Control) : ControlWire :=
  { defaultSlope := signed16 g.defaultSlope, lowWater := byte g.lowWater.code, lookahead := word16 g.lookahead,
    tolerance := byte g.tolerance, deadband := byte g.deadband, gain := byte g.gain, slew := word16 g.slew,
    swell := byte g.swell }

def LegSetup.wire (g : LegSetup) : LegWire :=
  { start := word16 g.start, maximum := word16 g.maximum, rate := word16 g.rate }

def legsWire (g : Sides LegSetup) : Sides LegWire := ⟨g.left.wire, g.right.wire⟩

def ScanSetup.wire (g : ScanSetup) : ScanWire :=
  { mode := byte g.mode.code, count := byte g.count, slots := g.slots, prescaler := byte g.prescaler,
    period := byte g.period, settle := word16 g.settle, park := byte g.park, distance := byte g.distance,
    standstillPeriod := word16 g.standstillPeriod }

def ConveyorSetup.wire (g : ConveyorSetup) : ConveyorWire :=
  { capacity := byte g.capacity, beltMin := byte g.beltMin, purge := byte g.purge, topOff := byte g.topOff,
    housingLimit := word16 g.housingLimit, pickup := word16 g.pickup, start := word16 g.start,
    maximum := word16 g.maximum }

def TruckSetup.wire (g : TruckSetup) : TruckWire :=
  { target := word16 g.target, margin := word16 g.margin, settle := byte g.settle }

def Limits.wire (g : Limits) : LimitsWire :=
  { filter := byte g.filter.code, maxSpeed := word16 g.maxSpeed, pair := byte g.pair.code }

/-- The level bytes of the NOTICE group. -/
def levelBytes (l : PerClass Nat) : List Byte := NoticeClass.all.map fun c => byte (l.get c)

/-- The bytes of a group as the working setup holds it; none for a number above 16 (R183, Table 11.1). -/
def groupBytes (p : Setup) (group : Nat) : Option (List Byte) :=
  match group with
  | 0 => some p.geometry.wire.bytes
  | 1 => some (p.channels.get 0).wire.bytes
  | 2 => some (p.channels.get 1).wire.bytes
  | 3 => some (p.channels.get 2).wire.bytes
  | 4 => some (p.channels.get 3).wire.bytes
  | 5 => some (p.channels.get 4).wire.bytes
  | 6 => some (p.channels.get 5).wire.bytes
  | 7 => some (p.channels.get 6).wire.bytes
  | 8 => some (p.channels.get 7).wire.bytes
  | 9 => some p.control.wire.bytes
  | 10 => some (legGroupBytes (legsWire p.legs))
  | 11 => some p.scan.wire.bytes
  | 12 => some p.conveyor.wire.bytes
  | 13 => some p.truck.wire.bytes
  | 14 => some p.limits.wire.bytes
  | 15 => some (levelBytes p.levels)
  | 16 => some [byte p.baud.code]
  | _ => none

/-! ## The values a write carries, clamped to their ranges (R181; Tables 1.2, 2.1, 2.2, 3.2, 4.2, 5.3, 6.3,
7.2, 8.2) -/

def isChannel (b : Byte) : Bool := decide (b.toNat ≤ 7)

/-- The slots of a list within its count are channel numbers; each check has its slot's offset (check 4). -/
def slotChecks (offset count : Nat) (slots : List Byte) : List (Nat × Bool) :=
  ((slots.take count).zipIdx offset).map fun q => (q.2, isChannel q.1)

/-- Check 4 of GEOMETRY, with offsets in the Write Setup body (log 23). -/
def geometryChecks (w : GeometryWire) : List (Nat × Bool) :=
  [(3, (sideOfCode w.refSide.toNat).isSome), (4, (SideMode.ofCode w.refMode.toNat).isSome),
   (5, (SideMode.ofCode w.farMode.toNat).isSome),
   (6, decide (1 ≤ w.refCount.toNat ∧ w.refCount.toNat ≤ 4))] ++
    slotChecks 7 w.refCount.toNat w.refSlots.toList ++
    [(11, decide (1 ≤ w.farCount.toNat ∧ w.farCount.toNat ≤ 4))] ++
    slotChecks 12 w.farCount.toNat w.farSlots.toList ++
    [(16, isChannel w.slopeChannel), (19, (EncoderSense.ofCode w.sense.toNat).isSome)]

/-- The GEOMETRY a write carries, clamped; none while an enumerated field holds no listed value. -/
def geometryOfWire (w : GeometryWire) : Option Geometry :=
  match sideOfCode w.refSide.toNat, SideMode.ofCode w.refMode.toNat, SideMode.ofCode w.farMode.toNat,
      EncoderSense.ofCode w.sense.toNat with
  | some side, some refMode, some farMode, some sense =>
    some
      { width := clampNat 500 4400 w.width.toNat, refSide := side, refMode := refMode, farMode := farMode,
        refGroup := { count := w.refCount.toNat, slots := w.refSlots },
        farGroup := { count := w.farCount.toNat, slots := w.farSlots },
        slopeChannel := channelOfByte w.slopeChannel, pulses := clampNat 100 20000 w.pulses.toNat,
        sense := sense }
  | _, _, _, _ => none

/-- The highest half-span of a kind; NONE takes the range of DISTANCE (R181). -/
def spanMax : ChannelKind → Nat
  | .slope => 1000
  | _ => 2000

def channelOfWire (w : ChannelWire) : Option ChannelSetup :=
  (ChannelKind.ofCode w.kind.toNat).map fun kind =>
    { kind := kind, gain := clamp (-2048) 2047 w.gain.toInt, offset := clamp (-256) 255 w.offset.toInt,
      span := clampNat 1 (spanMax kind) w.span.toNat, mount := clamp (-5000) 5000 w.mount.toInt,
      spike := clampNat 0 400 w.spike.toNat }

def controlOfWire (w : ControlWire) : Option Control :=
  (LowWater.ofCode w.lowWater.toNat).map fun low =>
    { defaultSlope := clamp (-1000) 1000 w.defaultSlope.toInt, lowWater := low,
      lookahead := clampNat 0 2000 w.lookahead.toNat, tolerance := clampNat 0 200 w.tolerance.toNat,
      deadband := clampNat 0 50 w.deadband.toNat, gain := clampNat 1 200 w.gain.toNat,
      slew := clampNat 10 1000 w.slew.toNat, swell := clampNat 100 180 w.swell.toNat }

def legOfWire (w : LegWire) : LegSetup :=
  { start := clampNat 100 800 w.start.toNat, maximum := clampNat 200 1500 w.maximum.toNat,
    rate := clampNat 1 500 w.rate.toNat }

def legsOfWire (w : Sides LegWire) : Sides LegSetup := ⟨legOfWire w.left, legOfWire w.right⟩

/-- Check 4 of SCAN. -/
def scanChecks (w : ScanWire) : List (Nat × Bool) :=
  [(1, (TriggerMode.ofCode w.mode.toNat).isSome), (2, decide (w.count.toNat ≤ 8))] ++
    slotChecks 3 w.count.toNat w.slots.toList

def scanOfWire (w : ScanWire) : Option ScanSetup :=
  (TriggerMode.ofCode w.mode.toNat).map fun mode =>
    { mode := mode, count := w.count.toNat, slots := w.slots, prescaler := clampNat 1 16 w.prescaler.toNat,
      period := clampNat 1 250 w.period.toNat, settle := clampNat 20 500 w.settle.toNat,
      park := clampNat 0 30 w.park.toNat, distance := clampNat 1 50 w.distance.toNat,
      standstillPeriod := clampNat 50 1000 w.standstillPeriod.toNat }

def conveyorOfWire (w : ConveyorWire) : ConveyorSetup :=
  { capacity := clampNat 10 200 w.capacity.toNat, beltMin := clampNat 5 50 w.beltMin.toNat,
    purge := clampNat 20 100 w.purge.toNat, topOff := clampNat 10 100 w.topOff.toNat,
    housingLimit := clampNat 100 2000 w.housingLimit.toNat, pickup := clampNat 100 20000 w.pickup.toNat,
    start := clampNat 100 800 w.start.toNat, maximum := clampNat 200 1500 w.maximum.toNat }

def truckOfWire (w : TruckWire) : TruckSetup :=
  { target := clampNat 2000 30000 w.target.toNat, margin := clampNat 0 5000 w.margin.toNat,
    settle := clampNat 1 10 w.settle.toNat }

def limitsOfWire (w : LimitsWire) : Option Limits :=
  match FilterPeriod.ofCode w.filter.toNat, SupplyPair.ofCode w.pair.toNat with
  | some filter, some pair => some { filter := filter, maxSpeed := clampNat 10 999 w.maxSpeed.toNat, pair := pair }
  | _, _ => none

/-- Check 4 of LIMITS. -/
def limitsChecks (w : LimitsWire) : List (Nat × Bool) :=
  [(1, (FilterPeriod.ofCode w.filter.toNat).isSome), (4, (SupplyPair.ofCode w.pair.toNat).isSome)]

/-- A level above 3 becomes 3 (R181). -/
def levelOfByte (b : Byte) : Nat := clampNat 0 3 b.toNat

def levelsOfWire (w : PerClass Byte) : PerClass Nat :=
  { supplyLow := levelOfByte w.supplyLow, stopSense := levelOfByte w.stopSense,
    obstacleBreach := levelOfByte w.obstacleBreach, referenceLost := levelOfByte w.referenceLost,
    beltStall := levelOfByte w.beltStall, housingHigh := levelOfByte w.housingHigh,
    programEnd := levelOfByte w.programEnd, obstacleUnsampled := levelOfByte w.obstacleUnsampled,
    rampLimited := levelOfByte w.rampLimited, programLow := levelOfByte w.programLow,
    legLimit := levelOfByte w.legLimit, channelFault := levelOfByte w.channelFault,
    channelRecovered := levelOfByte w.channelRecovered, programGap := levelOfByte w.programGap,
    scanOverrun := levelOfByte w.scanOverrun, truckComplete := levelOfByte w.truckComplete,
    transferTimeout := levelOfByte w.transferTimeout, setupDefaulted := levelOfByte w.setupDefaulted,
    segmentDone := levelOfByte w.segmentDone, referenceSwitched := levelOfByte w.referenceSwitched }

/-! ## Write Setup (R181, R182) -/

/-- The answer to an accepted write: CLAMPED when the group held differs from the one written, and the group
as now held (R182; log 23). -/
def writeAnswer (group : Byte) (written held : List Byte) : Answer :=
  answer (if held = written then .done else .clamped) (byteFields (group :: held))

/-- Checks 2 and 3, of GEOMETRY, CHANNEL and SCAN (R181). -/
def guardedRefusal (s : State) : Option Answer :=
  if anyAuto s then some (refuse .notAllowed .legAuto)
  else if s.scanner.state ≠ .stopped then some (refuse .notAllowed .running)
  else none

/-- The refusal of an enumerated field (check 4). -/
def refuseFirst (checks : List (Nat × Bool)) : Option Answer := (firstBad checks).map refuseField

/-- Checks 6 to 9 of GEOMETRY, against the CHANNEL groups as they stand (R181). -/
def geometryRefusal (p : Setup) (g : Geometry) : Option Answer :=
  let distance (c : Channel) : Bool := (p.channels.get c).kind == .distance
  if g.refMode = .slope then some (refuse .badField .slopeSide)
  else if !(g.refGroup.channels.all distance && g.farGroup.channels.all distance) then
    some (refuse .badField .groupKind)
  else if g.farMode = .slope ∧ (p.channels.get g.slopeChannel).kind ≠ .slope then
    some (refuse .badField .slopeKind)
  else if ¬(g.refGroup.channels.Nodup ∧ g.farGroup.channels.Nodup) then some (refuse .badField .repeated)
  else none

/-- The last channel used of a side is forgotten when its mode changes (R91). -/
def modeChanged (old new : Geometry) (d : Side) (g : GradeSide) : GradeSide :=
  if sideMode old d = sideMode new d then g else { g with lastUsed := none }

/-- The effects of an accepted GEOMETRY (R15, R91). -/
def applyGeometry (s : State) (g : Geometry) : State :=
  let old := s.setup.geometry
  let t := setWorking s { s.setup with geometry := g }
  (t.setTravel t.travel.rebased).setGrade
    { s.grade with
      sides := ⟨modeChanged old g .left s.grade.sides.left, modeChanged old g .right s.grade.sides.right⟩ }

/-- Write Setup of GEOMETRY (R181, R182). -/
def takeWriteGeometry (w : GeometryWire) (s : State) : State × Answer :=
  match guardedRefusal s, refuseFirst (geometryChecks w), geometryOfWire w with
  | some a, _, _ => (s, a)
  | none, some a, _ => (s, a)
  | none, none, none => (s, refuse .badField .field)
  | none, none, some g =>
    match geometryRefusal s.setup g with
    | some a => (s, a)
    | none => (applyGeometry s g, writeAnswer 0 w.bytes g.wire.bytes)

/-- A channel's record made STALE with its runs at 0 (R18, R19). -/
def staleRecord (s : State) (c : Channel) : State := setRecord s c (s.scanner.records.get c).staled

/-- Write Setup of a CHANNEL group (R181, R182, R18). -/
def takeWriteChannel (c : Channel) (w : ChannelWire) (s : State) : State × Answer :=
  match guardedRefusal s, channelOfWire w with
  | some a, _ => (s, a)
  | none, none => (s, refuseField 1)
  | none, some g =>
    if g.kind = .noHead ∧ s.setup.scan.list.contains c then (s, refuse .badField .noneListed)
    else
      (staleRecord (setWorking s { s.setup with channels := s.setup.channels.set c g }) c,
        writeAnswer (channelGroup c) w.bytes g.wire.bytes)

/-- Write Setup of CONTROL: the low-water condition is evaluated at once (R63, R181, R182). -/
def takeWriteControl (w : ControlWire) (s : State) : State × Answer :=
  match controlOfWire w with
  | none => (s, refuseField 3)
  | some g =>
    (evaluateLowWater (setWorking s { s.setup with control := g }), writeAnswer 9 w.bytes g.wire.bytes)

/-- Write Setup of LEG: the coil currents are recomputed (R129, R181, R182). -/
def takeWriteLeg (w : Sides LegWire) (s : State) : State × Answer :=
  let g := legsOfWire w
  if g.left.maximum ≤ g.left.start ∨ g.right.maximum ≤ g.right.start then (s, refuse .badField .currents)
  else
    (recomputeCoils (setWorking s { s.setup with legs := g }),
      writeAnswer 10 (legGroupBytes w) (legGroupBytes (legsWire g)))

/-- Checks 9 and 10 of SCAN (R181). -/
def scanRefusal (p : Setup) (g : ScanSetup) : Option Answer :=
  if ¬g.list.Nodup then some (refuse .badField .repeated)
  else if g.list.any fun c => (p.channels.get c).kind == .noHead then some (refuse .badField .noneListed)
  else none

/-- The effects of an accepted SCAN: t and a running trigger timer (R15), records of removed channels (R19). -/
def applyScan (s : State) (g : ScanSetup) : State :=
  let t := setWorking s { s.setup with scan := g }
  let t := t.setTravel (t.travel.rescanned g.standstillPeriod)
  (s.setup.scan.list.filter fun c => !g.list.contains c).foldl staleRecord t

/-- Write Setup of SCAN (R181, R182). -/
def takeWriteScan (w : ScanWire) (s : State) : State × Answer :=
  match guardedRefusal s, refuseFirst (scanChecks w), scanOfWire w with
  | some a, _, _ => (s, a)
  | none, some a, _ => (s, a)
  | none, none, none => (s, refuse .badField .field)
  | none, none, some g =>
    match scanRefusal s.setup g with
    | some a => (s, a)
    | none => (applyScan s g, writeAnswer 11 w.bytes g.wire.bytes)

/-- Write Setup of CONVEYOR: the belt command is evaluated (R133, R181, R182). -/
def takeWriteConveyor (w : ConveyorWire) (s : State) : State × Answer :=
  let g := conveyorOfWire w
  if g.maximum ≤ g.start then (s, refuse .badField .currents)
  else
    (evaluateBelt (setWorking s { s.setup with conveyor := g }), writeAnswer 12 w.bytes g.wire.bytes)

/-- Write Setup of TRUCK: a change of target or margin makes the truck checks (R147, R181, R182). -/
def takeWriteTruck (w : TruckWire) (s : State) : State × Answer :=
  let g := truckOfWire w
  let old := s.setup.truck
  let t := setWorking s { s.setup with truck := g }
  (if g.target = old.target ∧ g.margin = old.margin then t else truckChecks t,
    writeAnswer 13 w.bytes g.wire.bytes)

/-- Write Setup of LIMITS: the speed cap is recomputed (R158, R181, R182). -/
def takeWriteLimits (w : LimitsWire) (s : State) : State × Answer :=
  match refuseFirst (limitsChecks w), limitsOfWire w with
  | some a, _ => (s, a)
  | none, none => (s, refuse .badField .field)
  | none, some g =>
    (setHolds (setWorking s { s.setup with limits := g }) s.advance.holds, writeAnswer 14 w.bytes g.wire.bytes)

/-- The pending notice of a class, dropped when the class stands at level 3 (R164). -/
def keptNotice (levels : PerClass Nat) (pending : PerClass (Option Notice)) (c : NoticeClass) : Option Notice :=
  if 3 ≤ levels.get c then none else pending.get c

/-- The pending set without the classes at level 3 (R164). -/
def keptNotices (l : PerClass Nat) (p : PerClass (Option Notice)) : PerClass (Option Notice) :=
  { supplyLow := keptNotice l p .supplyLow, stopSense := keptNotice l p .stopSense,
    obstacleBreach := keptNotice l p .obstacleBreach, referenceLost := keptNotice l p .referenceLost,
    beltStall := keptNotice l p .beltStall, housingHigh := keptNotice l p .housingHigh,
    programEnd := keptNotice l p .programEnd, obstacleUnsampled := keptNotice l p .obstacleUnsampled,
    rampLimited := keptNotice l p .rampLimited, programLow := keptNotice l p .programLow,
    legLimit := keptNotice l p .legLimit, channelFault := keptNotice l p .channelFault,
    channelRecovered := keptNotice l p .channelRecovered, programGap := keptNotice l p .programGap,
    scanOverrun := keptNotice l p .scanOverrun, truckComplete := keptNotice l p .truckComplete,
    transferTimeout := keptNotice l p .transferTimeout, setupDefaulted := keptNotice l p .setupDefaulted,
    segmentDone := keptNotice l p .segmentDone, referenceSwitched := keptNotice l p .referenceSwitched }

/-- The pending notices of classes at level 3 removed; the latched flags kept (R164). -/
def dropSilenced (s : State) : State :=
  s.setNotices { s.notices with pending := keptNotices s.setup.levels s.notices.pending }

/-- Write Setup of NOTICE (R164, R181, R182). -/
def takeWriteNotice (w : PerClass Byte) (s : State) : State × Answer :=
  let l := levelsOfWire w
  (dropSilenced (setWorking s { s.setup with levels := l }), writeAnswer 15 (noticeBytes w) (levelBytes l))

/-- Write Setup of LINK: the rate in use stays (R180 to R182). -/
def takeWriteLink (baud : Byte) (s : State) : State × Answer :=
  match Baud.ofCode baud.toNat with
  | none => (s, refuseField 1)
  | some b => (setWorking s { s.setup with baud := b }, writeAnswer 16 [baud] [byte b.code])

/-- A Write Setup whose group number lies above 16 (check 1 of R181). -/
def takeWriteNoGroup (s : State) : State × Answer := (s, refuse .badField .group)

/-- Read Setup (R183). -/
def takeReadSetup (group : Byte) (s : State) : State × Answer :=
  match groupBytes s.setup group.toNat with
  | none => (s, refuse .badField .group)
  | some bs => (s, answer .done (byteFields (group :: bs)))

/-! ## Store Setup (R184) -/

/-- Store Setup: while the store runs, the stored copy's check does not match (R184; log 15). -/
def takeStoreSetup (s : State) : State × Answer :=
  if s.supply.state = .low then (s, refuse .notAllowed .supply)
  else
    (s.setStore { s.store with begun := true, stored := none, storing := some s.setup }, answer .done [])

/-- STORE_TIMER_EXPIRY (R184); of no effect with no store in flight (log 4). -/
def execStoreTimerExpiry (s : State) : Host.Outcome State Fault Refusal :=
  .next
    (match s.store.storing with
    | none => s
    | some p => s.setStore { s.store with stored := some p, begun := false, storing := none })

/-! ## Start-up (R185, R186) -/

/-- What the load takes as the working setup: the contents, or the factory defaults with the cause (R185). -/
def loadChoice (t : Store) : Setup × Option DefaultCause :=
  if t.begun then (factorySetup, some .interrupted)
  else
    match t.stored with
    | some p => (p, none)
    | none => (factorySetup, some .check)

/-- The loaded settings taken by the blocks (R16, R154, R158, R180, R185; log 31). -/
def takeSettings (s : State) (p : Setup) : State :=
  let t := setWorking s p
  let t := t.setTravel (t.travel.rebased.rescanned p.scan.standstillPeriod)
  let t := t.setLink { t.link with baud := p.baud }
  dropSilenced (setHolds t t.advance.holds)

/-- The load: the phase becomes SUPPLY_WAIT, and SETUP_DEFAULTED is posted for the defaults (R185). -/
def load (s : State) : State :=
  let q := loadChoice s.store
  let t := takeSettings s q.1
  let t := t.setStore
    { t.store with phase := .supplyWait, storedState := if q.2.isSome then .defaults else .stored }
  match q.2 with
  | some cause => post t .setupDefaulted (.setupDefaulted cause)
  | none => t

/-- SETUP_LOAD (R185); of no effect outside LOAD (log 27). -/
def execSetupLoad (s : State) : Host.Outcome State Fault Refusal :=
  .next (if s.store.phase = .load then load s else s)

/-- STARTUP_SETTLE_EXPIRY (R186); of no effect outside SETTLE (log 4). -/
def execStartupSettleExpiry (s : State) : Host.Outcome State Fault Refusal :=
  .next
    (if s.store.phase = .settle then
      if s.supply.state = .normal then withdrawReason (s.setStore { s.store with phase := .done }) .startup
      else s.setStore { s.store with phase := .supplyWait }
    else s)

/-! ## Full reset (file 00 section 4.6; R187) -/

/-- The Setup Store after a full reset: the non-volatile parts kept, the rest as at reset (R187; log 15). -/
def Store.afterReset (t : Store) : Store :=
  { State.reset.store with stored := t.stored, begun := t.begun, storedState := t.storedState }

/-- FULL_RESET: every block at its reset value, the encoder's phase state at the levels present (R2, R16, R37,
R64, R85, R114, R130, R151, R163, R170, R180, R187; log 28). -/
def execFullReset (a b : Bool) (s : State) : Host.Outcome State Fault Refusal :=
  .next
    { State.reset with
      travel := { State.reset.travel with phaseA := a, phaseB := b },
      store := s.store.afterReset, freeCount := s.freeCount, pending := s.pending }

end Sys2Proof.Machine
end

