-- ==== Sys2Proof/Machine/Link.lean ====
section
/-! DEFINITION. The Console Link (file 10): the receiver, the screen and dispatch of requests, Identify, Link
Reset, and the transmitter's freeing. -/

namespace Sys2Proof.Machine

open Sys2Proof

/-! ## Identify and Link Reset (R178, R179) -/

/-- "Tornach" in ASCII. -/
def vendorCodes : List Nat := [84, 111, 114, 110, 97, 99, 104]

/-- "TG-740" in ASCII. -/
def partCodes : List Nat := [84, 71, 45, 55, 52, 48]

/-- Identify (R178). -/
def takeIdentify (s : State) : State × Answer :=
  let n := s.link.counters
  (s, answer .done
    (textField 12 vendorCodes ++ textField 12 partCodes ++
      [u8 Config.hardwareRevision.toNat, u8 s.store.storedState.code, u8 s.link.baud.code, field2 n.good,
       field2 n.check, field2 n.length, field2 n.silence, field2 n.overrun]))

/-- The pending set emptied and the flags cleared (R170). -/
def clearNotices (s : State) : State :=
  s.setNotices { pending := PerClass.fill none, latched := PerClass.fill false }

/-- The link reset acts in every block (R37, R64, R85, R114, R130, R151, R163, R170, R179, R187). Flags of
conditions that still hold are set again once the blocks have acted (R170; log 20). -/
def linkResetActs (s : State) : State :=
  let t := clearNotices s
  let t := t.setLink { t.link with sequence := 0 }
  let t := (programLinkReset t).setObstacles []
  let t := withdrawReason (holdAutoLegs t) .programEnd
  t.setNotices { t.notices with latched := relatch t }

/-! ## Requests handed to their owning blocks (Table 10.7) -/

/-- What the owning block does with a request, and its answer. -/
def takeRequest : Request → State → State × Answer
  | .setStation x => takeSetStation x
  | .startScan => takeStartScan
  | .stopScan => takeStopScan
  | .singleScan => takeSingleScan
  | .readChannels => takeReadChannels
  | .loadSegments n => takeLoadSegments n
  | .segmentRecord r => takeSegmentRecord r
  | .abortTransfer => takeAbortTransfer
  | .cutProgram c => takeCutProgram c
  | .clearProgram => takeClearProgram
  | .querySegment id => takeQuerySegment id
  | .locateByStation x => takeLocateByStation x
  | .locateBySegment id off => takeLocateBySegment id off
  | .addObstacle o => takeAddObstacle o
  | .removeObstacle id => takeRemoveObstacle id
  | .listObstacles i => takeListObstacles i
  | .setTrim p l r => takeSetTrim p l r
  | .setLegMode leg mode => takeSetLegMode leg mode
  | .jogLeg leg dir p d => takeJogLeg leg dir p d
  | .setBeltMode mode p => takeSetBeltMode mode p
  | .setTruckTarget l => takeSetTruckTarget l
  | .truckDone => takeTruckDone
  | .takeTruckRecord => takeTakeTruckRecord
  | .clearTotals => takeClearTotals
  | .readTotals => takeReadTotals
  | .releaseHold r => takeReleaseHold r
  | .readStatus => takeReadStatus
  | .peekStatus => takePeekStatus
  | .identify => takeIdentify
  | .linkReset => fun s => (linkResetActs s, answer .done [])
  | .writeGeometry g => takeWriteGeometry g
  | .writeChannel c g => takeWriteChannel c g
  | .writeControl g => takeWriteControl g
  | .writeLeg g => takeWriteLeg g
  | .writeScan g => takeWriteScan g
  | .writeConveyor g => takeWriteConveyor g
  | .writeTruck g => takeWriteTruck g
  | .writeLimits g => takeWriteLimits g
  | .writeNotice g => takeWriteNotice g
  | .writeLink b => takeWriteLink b
  | .writeNoGroup _ _ => takeWriteNoGroup
  | .readSetup g => takeReadSetup g
  | .storeSetup => takeStoreSetup

/-! ## The screen (R174) -/

/-- The kinds that pass a store in flight: Read Status, Peek Status. -/
def passesStore (kind : Byte) : Bool := kind == 0x71#8 || kind == 0x72#8

/-- The kinds that pass an open transfer phase: Segment Record, Abort Transfer, Read Status, Peek Status, Link
Reset. -/
def passesTransfer (kind : Byte) : Bool :=
  kind == 0x21#8 || kind == 0x22#8 || kind == 0x71#8 || kind == 0x72#8 || kind == 0x79#8

/-- Checks 1 to 3 of the screen. -/
def screenKind (s : State) (kind : Byte) : Option Answer :=
  if !isRequestKind kind then some (refuse .unknown .noDetail)
  else if s.store.storing.isSome && !passesStore kind then some (refuse .busy .noDetail)
  else if s.program.transfer.isSome && !passesTransfer kind then some (refuse .busy .noDetail)
  else none

/-- A request known to be whole, screened and handed to its owner. The DONE of a Link Reset is placed in the
slot before it acts (R174, R175, R179). -/
def serveRequest (s : State) (tag : Byte) (r : Request) : State :=
  match screenKind s r.kind with
  | some a => placeReply s { kind := r.kind, tag := tag, answer := a }
  | none =>
    match r with
    | .linkReset => linkResetActs (placeReply s { kind := r.kind, tag := tag, answer := answer .done [] })
    | _ => respond r.kind tag (takeRequest r) s

/-- The body of a frame read as a request of its kind, when check 4 of the screen passes (R174). -/
def wholeRequest (kind : Byte) (body : List Byte) : Option Request :=
  if lengthOk kind body then parseRequest kind body else none

/-- A good frame dispatched: screened in order, and served (R174). -/
def dispatch (s : State) (kind tag : Byte) (body : List Byte) : State :=
  match screenKind s kind with
  | some a => placeReply s { kind := kind, tag := tag, answer := a }
  | none =>
    match wholeRequest kind body with
    | none => placeReply s { kind := kind, tag := tag, answer := refuse .badField .frame }
    | some r => serveRequest s tag r

/-! ## The receiver (R172, R173) -/

def setRx (s : State) (r : Receiver) : State := s.setLink { s.link with rx := r }

def setCounters (s : State) (n : LinkCounters) : State := s.setLink { s.link with counters := n }

/-- One more good frame, in the wrapping counter (R172). -/
def countGood (s : State) : State :=
  setCounters s { s.link.counters with good := wrap16 s.link.counters.good }

/-- A frame discarded for its check, or for a framing error (R172). -/
def discardCheck (s : State) : State :=
  setRx (setCounters s { s.link.counters with check := wrap16 s.link.counters.check }) .hunt

/-- A frame discarded for its length byte (R172). -/
def discardLength (s : State) : State :=
  setRx (setCounters s { s.link.counters with length := wrap16 s.link.counters.length }) .hunt

/-- A frame discarded for silence (R172). -/
def discardSilence (s : State) : State :=
  setRx (setCounters s { s.link.counters with silence := wrap16 s.link.counters.silence }) .hunt

/-- A good frame: dispatched at once with an empty slot, held with a full one (R173). -/
def frameGood (s : State) (kind tag : Byte) (body : List Byte) : State :=
  let t := countGood s
  match t.link.slot with
  | none => dispatch (setRx t .hunt) kind tag body
  | some _ => setRx t (.held kind tag body)

/-- The second check byte (R172). -/
def checkFrame (s : State) (kind tag : Byte) (body : List Byte) (low high : Byte) : State :=
  if u16 low high = crc16 (checkedBytes kind tag body) then frameGood s kind tag body else discardCheck s

/-- The state after a body byte (R172). -/
def afterBody (len : Nat) (kind tag : Byte) (got : List Byte) : Receiver :=
  if len ≤ got.length then .check kind tag got none else .body len kind tag got

/-- A byte without a framing error (R172, R173). -/
def takeByte (s : State) (b : Byte) : State :=
  match s.link.rx with
  | .hunt => if b = 0xA5#8 then setRx s .length else s
  | .length => if 240 < b.toNat then discardLength s else setRx s (.kind b.toNat)
  | .kind len => setRx s (.tag len b)
  | .tag len kind => setRx s (afterBody len kind b [])
  | .body len kind tag got => setRx s (afterBody len kind tag (got ++ [b]))
  | .check kind tag body none => setRx s (.check kind tag body (some b))
  | .check kind tag body (some low) => checkFrame s kind tag body low b
  | .held _ _ _ =>
    if b = 0xA5#8 then setCounters s { s.link.counters with overrun := wrap16 s.link.counters.overrun } else s

/-- A byte with a framing error: it discards the frame being received, and nothing in HUNT and HELD (R172). -/
def takeBadByte (s : State) : State :=
  match s.link.rx with
  | .hunt => s
  | .held _ _ _ => s
  | _ => discardCheck s

/-- BYTE_RECEIVED (R172); before the setup is loaded a byte is not received (R180). -/
def execByteReceived (b : Byte) (framingError : Bool) (s : State) : Host.Outcome State Fault Refusal :=
  .next (if s.store.phase = .load then s else if framingError then takeBadByte s else takeByte s b)

/-- SILENCE_TIMER_EXPIRY (R172); of no effect in HUNT and HELD, where the timer is stopped (log 4). -/
def execSilenceTimerExpiry (s : State) : Host.Outcome State Fault Refusal :=
  .next
    (match s.link.rx with
    | .hunt => s
    | .held _ _ _ => s
    | _ => discardSilence s)

/-- Bytes received one after another. -/
def feed (s : State) (bs : List Byte) : State := bs.foldl takeByte s

/-- A whole frame arrives at the receiver: in HUNT it is a good frame, in any other state its bytes are taken
one by one, and before the load it is not received (R172, R173, R180; log 5). -/
def arriveFrame (kind tag : Byte) (body : List Byte) (serve : State → State) (s : State) : State :=
  if s.store.phase = .load then s
  else
    match s.link.rx with
    | .hunt =>
      match s.link.slot with
      | none => serve (countGood s)
      | some _ => setRx (countGood s) (.held kind tag body)
    | _ => feed s (frameBytes kind tag body)

/-- A request's whole frame arrives. -/
def arrive (tag : Byte) (r : Request) (s : State) : State :=
  arriveFrame r.kind tag r.body (fun t => serveRequest t tag r) s

/-- The whole frame of a kind and a body arrives. -/
def arriveRaw (kind tag : Byte) (body : List Byte) (s : State) : State :=
  arriveFrame kind tag body (fun t => dispatch t kind tag body) s

/-! ## The transmitter (R176) -/

/-- A request waiting in HELD, dispatched now that the slot is empty (R173). -/
def dispatchHeld (s : State) : State :=
  match s.link.rx with
  | .held kind tag body => dispatch (setRx s .hunt) kind tag body
  | _ => s

/-- The frame on the line has ended, and the arbiter acts (R176). -/
def freeLine (s : State) : State :=
  let t := s.setLink { s.link with tx := .idle }
  match s.link.slot with
  | some _ => dispatchHeld (arbitrate t)
  | none => arbitrate t

/-- TRANSMITTER_IDLE (R176); of no effect with no frame on the line (log 4). -/
def execTransmitterIdle (s : State) : Host.Outcome State Fault Refusal :=
  .next
    (match s.link.tx with
    | .idle => s
    | _ => freeLine s)

end Sys2Proof.Machine
end

