-- ==== Sys2Proof/Machine/Requests.lean ====
section
/-! DEFINITION. One meaning for each request row of the table: the request's whole frame arrives at the
receiver (R172 to R174), and its owning block answers it by the rule named. -/

namespace Sys2Proof.Machine

open Sys2Proof

/-- SET_STATION (R13, R14). -/
def execSetStation (tag : Byte) (x : BitVec 24) (s : State) : Host.Outcome State Fault Refusal :=
  .next (arrive tag (.setStation x) s)

/-- START_SCAN (R20). -/
def execStartScan (tag : Byte) (s : State) : Host.Outcome State Fault Refusal :=
  .next (arrive tag .startScan s)

/-- STOP_SCAN (R29). -/
def execStopScan (tag : Byte) (s : State) : Host.Outcome State Fault Refusal :=
  .next (arrive tag .stopScan s)

/-- SINGLE_SCAN (R30). -/
def execSingleScan (tag : Byte) (s : State) : Host.Outcome State Fault Refusal :=
  .next (arrive tag .singleScan s)

/-- READ_CHANNELS (R31). -/
def execReadChannels (tag : Byte) (s : State) : Host.Outcome State Fault Refusal :=
  .next (arrive tag .readChannels s)

/-- LOAD_SEGMENTS (R50). -/
def execLoadSegments (tag : Byte) (n : Byte) (s : State) : Host.Outcome State Fault Refusal :=
  .next (arrive tag (.loadSegments n) s)

/-- SEGMENT_RECORD (R51 to R54). -/
def execSegmentRecord (tag : Byte) (r : SegmentWire) (s : State) : Host.Outcome State Fault Refusal :=
  .next (arrive tag (.segmentRecord r) s)

/-- ABORT_TRANSFER (R56). -/
def execAbortTransfer (tag : Byte) (s : State) : Host.Outcome State Fault Refusal :=
  .next (arrive tag .abortTransfer s)

/-- CUT_PROGRAM (R58). -/
def execCutProgram (tag : Byte) (c : BitVec 24) (s : State) : Host.Outcome State Fault Refusal :=
  .next (arrive tag (.cutProgram c) s)

/-- CLEAR_PROGRAM (R59). -/
def execClearProgram (tag : Byte) (s : State) : Host.Outcome State Fault Refusal :=
  .next (arrive tag .clearProgram s)

/-- QUERY_SEGMENT (R60). -/
def execQuerySegment (tag : Byte) (id : BitVec 16) (s : State) : Host.Outcome State Fault Refusal :=
  .next (arrive tag (.querySegment id) s)

/-- LOCATE_BY_STATION (R61). -/
def execLocateByStation (tag : Byte) (x : BitVec 24) (s : State) : Host.Outcome State Fault Refusal :=
  .next (arrive tag (.locateByStation x) s)

/-- LOCATE_BY_SEGMENT (R62). -/
def execLocateBySegment (tag : Byte) (id : BitVec 16) (off : BitVec 24) (s : State) : Host.Outcome State Fault Refusal :=
  .next (arrive tag (.locateBySegment id off) s)

/-- ADD_OBSTACLE (R69, R70). -/
def execAddObstacle (tag : Byte) (o : ObstacleWire) (s : State) : Host.Outcome State Fault Refusal :=
  .next (arrive tag (.addObstacle o) s)

/-- REMOVE_OBSTACLE (R71). -/
def execRemoveObstacle (tag : Byte) (id : Byte) (s : State) : Host.Outcome State Fault Refusal :=
  .next (arrive tag (.removeObstacle id) s)

/-- LIST_OBSTACLES (R72). -/
def execListObstacles (tag : Byte) (i : Byte) (s : State) : Host.Outcome State Fault Refusal :=
  .next (arrive tag (.listObstacles i) s)

/-- SET_TRIM (R112). -/
def execSetTrim (tag : Byte) (p : Byte) (l r : BitVec 16) (s : State) : Host.Outcome State Fault Refusal :=
  .next (arrive tag (.setTrim p l r) s)

/-- SET_LEG_MODE (R118). -/
def execSetLegMode (tag : Byte) (leg mode : Byte) (s : State) : Host.Outcome State Fault Refusal :=
  .next (arrive tag (.setLegMode leg mode) s)

/-- SET_LEG_MODE_AUTO: Set Leg Mode with mode AUTO, code 2 (R119 to R121). -/
def execSetLegModeAuto (tag : Byte) (leg : Byte) (s : State) : Host.Outcome State Fault Refusal :=
  .next (arrive tag (.setLegMode leg 2) s)

/-- JOG_LEG (R125). -/
def execJogLeg (tag : Byte) (leg dir : Byte) (p d : BitVec 16) (s : State) : Host.Outcome State Fault Refusal :=
  .next (arrive tag (.jogLeg leg dir p d) s)

/-- SET_BELT_MODE (R138). -/
def execSetBeltMode (tag : Byte) (mode : Byte) (p : BitVec 16) (s : State) : Host.Outcome State Fault Refusal :=
  .next (arrive tag (.setBeltMode mode p) s)

/-- SET_TRUCK_TARGET (R147). -/
def execSetTruckTarget (tag : Byte) (l : BitVec 16) (s : State) : Host.Outcome State Fault Refusal :=
  .next (arrive tag (.setTruckTarget l) s)

/-- TRUCK_DONE (R148). -/
def execTruckDone (tag : Byte) (s : State) : Host.Outcome State Fault Refusal :=
  .next (arrive tag .truckDone s)

/-- TAKE_TRUCK_RECORD (R150). -/
def execTakeTruckRecord (tag : Byte) (s : State) : Host.Outcome State Fault Refusal :=
  .next (arrive tag .takeTruckRecord s)

/-- CLEAR_TOTALS (R141). -/
def execClearTotals (tag : Byte) (s : State) : Host.Outcome State Fault Refusal :=
  .next (arrive tag .clearTotals s)

/-- READ_TOTALS (R142). -/
def execReadTotals (tag : Byte) (s : State) : Host.Outcome State Fault Refusal :=
  .next (arrive tag .readTotals s)

/-- RELEASE_HOLD (R160). -/
def execReleaseHold (tag : Byte) (r : Byte) (s : State) : Host.Outcome State Fault Refusal :=
  .next (arrive tag (.releaseHold r) s)

/-- READ_STATUS (R167). -/
def execReadStatus (tag : Byte) (s : State) : Host.Outcome State Fault Refusal :=
  .next (arrive tag .readStatus s)

/-- PEEK_STATUS (R168). -/
def execPeekStatus (tag : Byte) (s : State) : Host.Outcome State Fault Refusal :=
  .next (arrive tag .peekStatus s)

/-- IDENTIFY (R178). -/
def execIdentify (tag : Byte) (s : State) : Host.Outcome State Fault Refusal :=
  .next (arrive tag .identify s)

/-- LINK_RESET (R179). -/
def execLinkReset (tag : Byte) (s : State) : Host.Outcome State Fault Refusal :=
  .next (arrive tag .linkReset s)

/-- WRITE_SETUP_GEOMETRY (R181, R182). -/
def execWriteSetupGeometry (tag : Byte) (g : GeometryWire) (s : State) : Host.Outcome State Fault Refusal :=
  .next (arrive tag (.writeGeometry g) s)

/-- WRITE_SETUP_CHANNEL (R181, R182). -/
def execWriteSetupChannel (tag : Byte) (c : Channel) (g : ChannelWire) (s : State) : Host.Outcome State Fault Refusal :=
  .next (arrive tag (.writeChannel c g) s)

/-- WRITE_SETUP_CONTROL (R181, R182). -/
def execWriteSetupControl (tag : Byte) (g : ControlWire) (s : State) : Host.Outcome State Fault Refusal :=
  .next (arrive tag (.writeControl g) s)

/-- WRITE_SETUP_LEG (R181, R182). -/
def execWriteSetupLeg (tag : Byte) (g : Sides LegWire) (s : State) : Host.Outcome State Fault Refusal :=
  .next (arrive tag (.writeLeg g) s)

/-- WRITE_SETUP_SCAN (R181, R182). -/
def execWriteSetupScan (tag : Byte) (g : ScanWire) (s : State) : Host.Outcome State Fault Refusal :=
  .next (arrive tag (.writeScan g) s)

/-- WRITE_SETUP_CONVEYOR (R181, R182). -/
def execWriteSetupConveyor (tag : Byte) (g : ConveyorWire) (s : State) : Host.Outcome State Fault Refusal :=
  .next (arrive tag (.writeConveyor g) s)

/-- WRITE_SETUP_TRUCK (R181, R182). -/
def execWriteSetupTruck (tag : Byte) (g : TruckWire) (s : State) : Host.Outcome State Fault Refusal :=
  .next (arrive tag (.writeTruck g) s)

/-- WRITE_SETUP_LIMITS (R181, R182). -/
def execWriteSetupLimits (tag : Byte) (g : LimitsWire) (s : State) : Host.Outcome State Fault Refusal :=
  .next (arrive tag (.writeLimits g) s)

/-- WRITE_SETUP_NOTICE (R181, R182). -/
def execWriteSetupNotice (tag : Byte) (g : PerClass Byte) (s : State) : Host.Outcome State Fault Refusal :=
  .next (arrive tag (.writeNotice g) s)

/-- WRITE_SETUP_LINK (R180 to R182). -/
def execWriteSetupLink (tag : Byte) (b : Byte) (s : State) : Host.Outcome State Fault Refusal :=
  .next (arrive tag (.writeLink b) s)

/-- READ_SETUP (R183). -/
def execReadSetup (tag : Byte) (g : Byte) (s : State) : Host.Outcome State Fault Refusal :=
  .next (arrive tag (.readSetup g) s)

/-- STORE_SETUP (R184). -/
def execStoreSetup (tag : Byte) (s : State) : Host.Outcome State Fault Refusal :=
  .next (arrive tag .storeSetup s)

/-- UNKNOWN_REQUEST: the frame of a kind that is no request kind of Table 10.7 (R174, R177). -/
def execUnknownRequest (tag kind : Byte) (body : List Byte) (s : State) : Host.Outcome State Fault Refusal :=
  .next (arriveRaw kind tag body s)

end Sys2Proof.Machine
end

