-- ==== Sys2Proof/Machine/Dispatch.lean ====
section
/-! DEFINITION. The dispatch of commands to their meanings, one arm per constructor. -/

namespace Sys2Proof.Machine

open Sys2Proof

def exec (i : Instr) (s : State) : Host.Outcome State Fault Refusal :=
  match i with
  | .fullReset a b => Sys2Proof.Machine.execFullReset a b s
  | .setupLoad => Sys2Proof.Machine.execSetupLoad s
  | .startupSettleExpiry => Sys2Proof.Machine.execStartupSettleExpiry s
  | .encoderEdge a b => Sys2Proof.Machine.execEncoderEdge a b s
  | .speedIntervalEnd => Sys2Proof.Machine.execSpeedIntervalEnd s
  | .standstillTimerExpiry => Sys2Proof.Machine.execStandstillTimerExpiry s
  | .standstillTriggerTimerExpiry => Sys2Proof.Machine.execStandstillTriggerTimerExpiry s
  | .setStation tag station => Sys2Proof.Machine.execSetStation tag station s
  | .triggerTaken kind station => Sys2Proof.Machine.execTriggerTaken kind station s
  | .standstillBeginEvent => Sys2Proof.Machine.execStandstillBeginEvent s
  | .standstillEndEvent => Sys2Proof.Machine.execStandstillEndEvent s
  | .settleTimerExpiry => Sys2Proof.Machine.execSettleTimerExpiry s
  | .intervalTimerExpiry => Sys2Proof.Machine.execIntervalTimerExpiry s
  | .parkTimerExpiry => Sys2Proof.Machine.execParkTimerExpiry s
  | .noLegAutoReport => Sys2Proof.Machine.execNoLegAutoReport s
  | .scanEnd raw => Sys2Proof.Machine.execScanEnd raw s
  | .legCommand d u => Sys2Proof.Machine.execLegCommand d u s
  | .referenceLostRequest d => Sys2Proof.Machine.execReferenceLostRequest d s
  | .noTargetRequest d => Sys2Proof.Machine.execNoTargetRequest d s
  | .targetLost => Sys2Proof.Machine.execTargetLost s
  | .leftAutoReport d => Sys2Proof.Machine.execLeftAutoReport d s
  | .leftHoldReport d => Sys2Proof.Machine.execLeftHoldReport d s
  | .breachMark id d depth bound => Sys2Proof.Machine.execBreachMark id d depth bound s
  | .cutReport r => Sys2Proof.Machine.execCutReport r s
  | .clearRemainder => Sys2Proof.Machine.execClearRemainder s
  | .reasonAdd r cap => Sys2Proof.Machine.execReasonAdd r cap s
  | .reasonWithdraw r => Sys2Proof.Machine.execReasonWithdraw r s
  | .programEndAhead => Sys2Proof.Machine.execProgramEndAhead s
  | .startScan tag => Sys2Proof.Machine.execStartScan tag s
  | .stopScan tag => Sys2Proof.Machine.execStopScan tag s
  | .singleScan tag => Sys2Proof.Machine.execSingleScan tag s
  | .singlePassEnd raw => Sys2Proof.Machine.execSinglePassEnd raw s
  | .readChannels tag => Sys2Proof.Machine.execReadChannels tag s
  | .loadSegments tag count => Sys2Proof.Machine.execLoadSegments tag count s
  | .segmentRecord tag r => Sys2Proof.Machine.execSegmentRecord tag r s
  | .itemTimerExpiry => Sys2Proof.Machine.execItemTimerExpiry s
  | .abortTransfer tag => Sys2Proof.Machine.execAbortTransfer tag s
  | .cutProgram tag c => Sys2Proof.Machine.execCutProgram tag c s
  | .clearProgram tag => Sys2Proof.Machine.execClearProgram tag s
  | .querySegment tag id => Sys2Proof.Machine.execQuerySegment tag id s
  | .locateByStation tag x => Sys2Proof.Machine.execLocateByStation tag x s
  | .locateBySegment tag id offset => Sys2Proof.Machine.execLocateBySegment tag id offset s
  | .addObstacle tag o => Sys2Proof.Machine.execAddObstacle tag o s
  | .removeObstacle tag id => Sys2Proof.Machine.execRemoveObstacle tag id s
  | .listObstacles tag index => Sys2Proof.Machine.execListObstacles tag index s
  | .setTrim tag presence left right => Sys2Proof.Machine.execSetTrim tag presence left right s
  | .setLegMode tag leg mode => Sys2Proof.Machine.execSetLegMode tag leg mode s
  | .setLegModeAuto tag leg => Sys2Proof.Machine.execSetLegModeAuto tag leg s
  | .jogLeg tag leg direction permille duration => Sys2Proof.Machine.execJogLeg tag leg direction permille duration s
  | .jogTimerExpiry d => Sys2Proof.Machine.execJogTimerExpiry d s
  | .switchSample closed => Sys2Proof.Machine.execSwitchSample closed s
  | .supplyMeasurement millivolts => Sys2Proof.Machine.execSupplyMeasurement millivolts s
  | .beltPulse => Sys2Proof.Machine.execBeltPulse s
  | .beltInterval => Sys2Proof.Machine.execBeltInterval s
  | .truckSettleTimerExpiry => Sys2Proof.Machine.execTruckSettleTimerExpiry s
  | .flashTimerExpiry => Sys2Proof.Machine.execFlashTimerExpiry s
  | .hornTimerExpiry => Sys2Proof.Machine.execHornTimerExpiry s
  | .setBeltMode tag mode percent => Sys2Proof.Machine.execSetBeltMode tag mode percent s
  | .setTruckTarget tag litres => Sys2Proof.Machine.execSetTruckTarget tag litres s
  | .truckDone tag => Sys2Proof.Machine.execTruckDone tag s
  | .takeTruckRecord tag => Sys2Proof.Machine.execTakeTruckRecord tag s
  | .clearTotals tag => Sys2Proof.Machine.execClearTotals tag s
  | .readTotals tag => Sys2Proof.Machine.execReadTotals tag s
  | .releaseHold tag reason => Sys2Proof.Machine.execReleaseHold tag reason s
  | .readStatus tag => Sys2Proof.Machine.execReadStatus tag s
  | .peekStatus tag => Sys2Proof.Machine.execPeekStatus tag s
  | .byteReceived b framingError => Sys2Proof.Machine.execByteReceived b framingError s
  | .unknownRequest tag kind body => Sys2Proof.Machine.execUnknownRequest tag kind body s
  | .silenceTimerExpiry => Sys2Proof.Machine.execSilenceTimerExpiry s
  | .transmitterIdle => Sys2Proof.Machine.execTransmitterIdle s
  | .identify tag => Sys2Proof.Machine.execIdentify tag s
  | .linkReset tag => Sys2Proof.Machine.execLinkReset tag s
  | .writeSetupGeometry tag g => Sys2Proof.Machine.execWriteSetupGeometry tag g s
  | .writeSetupChannel tag c g => Sys2Proof.Machine.execWriteSetupChannel tag c g s
  | .writeSetupControl tag g => Sys2Proof.Machine.execWriteSetupControl tag g s
  | .writeSetupLeg tag g => Sys2Proof.Machine.execWriteSetupLeg tag g s
  | .writeSetupScan tag g => Sys2Proof.Machine.execWriteSetupScan tag g s
  | .writeSetupConveyor tag g => Sys2Proof.Machine.execWriteSetupConveyor tag g s
  | .writeSetupTruck tag g => Sys2Proof.Machine.execWriteSetupTruck tag g s
  | .writeSetupLimits tag g => Sys2Proof.Machine.execWriteSetupLimits tag g s
  | .writeSetupNotice tag g => Sys2Proof.Machine.execWriteSetupNotice tag g s
  | .writeSetupLink tag baud => Sys2Proof.Machine.execWriteSetupLink tag baud s
  | .readSetup tag group => Sys2Proof.Machine.execReadSetup tag group s
  | .storeSetup tag => Sys2Proof.Machine.execStoreSetup tag s
  | .storeTimerExpiry => Sys2Proof.Machine.execStoreTimerExpiry s

end Sys2Proof.Machine
end

