-- ==== Sys2Proof/Machine/Step.lean ====
section
/-! DEFINITION. The step: the command at the front of the queue, or, with an empty queue, the oldest event in
flight. -/

namespace Sys2Proof.Machine

open Sys2Proof

/-- One step: exec of the front command on the state with the queue's rest. On an empty queue the oldest
event handed between blocks is taken by its receiver, and with none the block idles (logs 1 and 2). -/
def step (s : State) : Host.Outcome State Fault Refusal :=
  match s.pending, s.handed with
  | c :: rest, _ => exec c (s.setPending rest)
  | [], e :: _ => exec e s
  | [], [] => .next s

/-- s with the command a table word spells put at the front of its queue; no word spells one, since the table
gives no row any bits. -/
def State.withFetchWord (s : State) (nbits w : Nat) : State :=
  match decodeTableWord nbits w with
  | some c => s.setPending (c :: s.pending)
  | none => s

end Sys2Proof.Machine
end

