-- ==== Sys2Proof/Safety.lean ====
section
/-! DEFINITION. What counts as a safe run: the invariants of the machine, each in the terms of its rule, and
the words the statements use for a console that takes a request and for the reply it leaves. -/

namespace Sys2Proof.Machine

open Sys2Proof

/-! ## A console that takes a request -/

/-- The receiver takes a whole frame at once and has room for the reply (R172, R173, R180). -/
abbrev Listening (s : State) : Prop := s.store.phase ≠ .load ∧ s.link.rx = .hunt ∧ s.link.slot = none

/-- No store in flight and no transfer phase open: the screen passes every request kind (R174). -/
abbrev Unscreened (s : State) : Prop := s.store.storing = none ∧ s.program.transfer = none

/-- A request frame that arrives is taken by its owning block. -/
abbrev Accepting (s : State) : Prop := Listening s ∧ Unscreened s

/-- The link after a good frame and its reply: on the line when it is IDLE, else in the slot (R172, R175,
R176). -/
def Link.answered (l : Link) (r : Reply) : Link :=
  { l with
    counters := { l.counters with good := (l.counters.good + 1) % 65536 },
    tx := if l.tx = .idle then .reply r else l.tx,
    slot := if l.tx = .idle then none else some r }

/-- The reply to a request, with its kind and tag (R175). -/
def replyTo (tag : Byte) (r : Request) (a : Answer) : Reply := { kind := r.kind, tag := tag, answer := a }

/-- No leg is in AUTO. -/
abbrev NoAuto (s : State) : Prop := s.legs.legs.left.mode ≠ .auto ∧ s.legs.legs.right.mode ≠ .auto

/-! ## Invariants -/

/-- A leg within its rules: never both coils above 0 mA, no output in OFF and HOLD or while the supply is
low, a jog only in MANUAL (R116, R117, R126). -/
def LegInv (supplyLow : Bool) (l : Leg) : Prop :=
  (l.raiseCoil = 0 ∨ l.lowerCoil = 0) ∧
  (l.mode = .off ∨ l.mode = .hold ∨ supplyLow = true → l.output = 0 ∧ l.raiseCoil = 0 ∧ l.lowerCoil = 0) ∧
  (l.jog.isSome → l.mode = .manual)

/-- Both legs within their rules. -/
def LegsInv (s : State) : Prop :=
  LegInv s.legs.supplyLow s.legs.legs.left ∧ LegInv s.legs.supplyLow s.legs.legs.right

/-- The speed cap is the least of the setup maximum and the caps present, and the permit follows it (R158). -/
def CapInv (s : State) : Prop :=
  s.advance.speedCap ≤ s.setup.limits.maxSpeed ∧
  (∀ r c, s.advance.holds.get r = some c → s.advance.speedCap ≤ c) ∧
  (s.advance.speedCap = s.setup.limits.maxSpeed ∨ ∃ r, s.advance.holds.get r = some s.advance.speedCap) ∧
  s.advance.permit = decide (0 < s.advance.speedCap)

/-- The line never idles over work: while it is IDLE no reply waits and no notice is pending; a request waits
in HELD only behind a full slot; no class at level 3 has a pending notice (R164, R165, R173, R176). -/
def LineInv (s : State) : Prop :=
  (s.link.tx = .idle → s.link.slot = none ∧ ∀ c, s.notices.pending.get c = none) ∧
  (∀ k t b, s.link.rx = .held k t b → s.link.slot ≠ none) ∧
  (∀ c, s.notices.pending.get c ≠ none → s.setup.levels.get c < 3)

/-- A setup whose pulses per metre lie at or above the least value (Table 1.2). -/
def PulsesOk (p : Setup) : Prop := 100 ≤ p.geometry.pulses

/-- The travel count within its ranges (Table 1.1), for every setup the machine can come to run on. -/
def TravelInv (s : State) : Prop :=
  s.travel.station ≤ maxStation ∧ s.travel.frac < s.setup.geometry.pulses ∧
  -3 ≤ s.travel.edges ∧ s.travel.edges ≤ 3 ∧ PulsesOk s.setup ∧
  (∀ p, s.store.stored = some p → PulsesOk p) ∧ (∀ p, s.store.storing = some p → PulsesOk p)

/-- The announced records a transfer phase can still take; 0 with no phase. -/
def announcedLeft (p : Program) : Nat :=
  match p.transfer with
  | some t => t.announced - t.accepted
  | none => 0

/-- The program list in order: every segment has a length, no two overlap or share an id, and with the records
still announced there are at most 104 (R42, R50). -/
def ProgramInv (s : State) : Prop :=
  (∀ g ∈ s.program.segments, 1 ≤ g.length) ∧
  s.program.segments.Pairwise (fun g h => g.endStation ≤ h.start ∧ g.id ≠ h.id) ∧
  s.program.segments.length + announcedLeft s.program ≤ 104 ∧
  (∀ t, s.program.transfer = some t → t.accepted < t.announced ∧ t.announced ≤ 16)

/-- The tables within their sizes: at most 24 obstacle entries in table order with no id twice, at most 32
truck records (R68, R149). -/
def TablesInv (s : State) : Prop :=
  s.obstacles.length ≤ 24 ∧
  s.obstacles.Pairwise (fun a b => (a.start < b.start ∨ a.start = b.start ∧ a.id < b.id) ∧ a.id ≠ b.id) ∧
  s.conveyor.log.length ≤ 32

/-! ## Encoder edges -/

/-- The forward order of the phase states with sense NORMAL (R1). -/
def normalOrder : List (Bool × Bool × Bool × Bool) :=
  [(false, false, true, false), (true, false, true, true), (true, true, false, true), (false, true, false, false)]

/-- A change of the phase levels to the next state of the forward order, the orders exchanged for sense
INVERTED (R1). -/
def forwardEdge (sense : EncoderSense) (a b a' b' : Bool) : Prop :=
  match sense with
  | .normal => (a, b, a', b') ∈ normalOrder
  | .inverted => (a', b', a, b) ∈ normalOrder

/-- The blocks a counted pulse does not reach are as they were. -/
structure PulseFrame (s t : State) : Prop where
  scanner : t.scanner = s.scanner
  grade : t.grade = s.grade
  legs : t.legs = s.legs
  conveyor : t.conveyor = s.conveyor
  advance : t.advance = s.advance
  inputs : t.inputs = s.inputs
  supply : t.supply = s.supply
  store : t.store = s.store
  freeCount : t.freeCount = s.freeCount
  pending : t.pending = s.pending

/-! ## Occurrences -/

/-- An occurrence is sent at once: its class is below level 3 and the line is IDLE (R165, R176). -/
abbrev SentAtOnce (s : State) (c : NoticeClass) : Prop := s.link.tx = .idle ∧ s.setup.levels.get c < 3

/-- The flags and the pending set after an occurrence at station x with detail d: the class's flag set, and,
below level 3 with a frame on the line, its notice created or coalesced (R165). -/
def Notices.occurred (s : State) (c : NoticeClass) (x : Nat) (d : NoticeDetail) : Notices :=
  { latched := s.notices.latched.set c true,
    pending :=
      if s.link.tx = .idle ∨ 3 ≤ s.setup.levels.get c then s.notices.pending
      else s.notices.pending.set c
        (some { station := x, detail := d, repeated := (s.notices.pending.get c).isSome }) }

/-- The link after an occurrence: an IDLE line takes its notice, tagged with the notice sequence, which then
rises by 1 from 255 to 0 (R166, R176, R177). -/
def Link.occurred (s : State) (c : NoticeClass) (x : Nat) (d : NoticeDetail) : Link :=
  if SentAtOnce s c then
    { s.link with
      tx := .notice s.link.sequence (s.setup.levels.get c) c { station := x, detail := d, repeated := false },
      sequence := (s.link.sequence + 1) % 256 }
  else s.link

/-- The state after an occurrence, wherever the line never waits (`LineInv`). -/
def State.occurred (s : State) (c : NoticeClass) (x : Nat) (d : NoticeDetail) : State :=
  { s with notices := Notices.occurred s c x d, link := Link.occurred s c x d }

/-- What the Notice Unit holds after a command whose occurrences, at most one of a class, all at station x, are
those `told` gives: the flag of each class told is set. With a frame on the line each of them below level 3
leaves its notice, created or coalesced, and the link is as it was. A single occurrence on a line that never
waits acts as `State.occurred` says (R165, R176). -/
structure Told (s t : State) (x : Nat) (told : NoticeClass → Option NoticeDetail) : Prop where
  latched : ∀ c, t.notices.latched.get c = (s.notices.latched.get c || (told c).isSome)
  pending : s.link.tx ≠ .idle → t.link = s.link ∧ ∀ c, t.notices.pending.get c =
    match told c with
    | none => s.notices.pending.get c
    | some d =>
      if s.setup.levels.get c < 3 then
        some { station := x, detail := d, repeated := (s.notices.pending.get c).isSome }
      else s.notices.pending.get c
  single : LineInv s → ∀ c d, told c = some d → (∀ k, k ≠ c → told k = none) →
    t.notices = Notices.occurred s c x d ∧ t.link = Link.occurred s c x d
  quiet : (∀ c, told c = none) → t.notices = s.notices ∧ t.link = s.link

/-- A request answered with r whose own occurrences, at most one of a class, all at station x, are those `told`
gives: the flag of each is set. With a frame on the line the reply waits and each of them below level 3 leaves its
notice. On an IDLE line that never waits, with none of them below level 3 the reply goes out; with one below it,
either the reply goes out and the notice stays, or the notice goes out and the reply waits (R165, R176; log 6). -/
structure AnsweredTold (s t : State) (r : Reply) (x : Nat) (told : NoticeClass → Option NoticeDetail) : Prop where
  latched : ∀ c, t.notices.latched.get c = (s.notices.latched.get c || (told c).isSome)
  busy : s.link.tx ≠ .idle → t.link = s.link.answered r ∧ ∀ c, t.notices.pending.get c =
    match told c with
    | none => s.notices.pending.get c
    | some d =>
      if s.setup.levels.get c < 3 then
        some { station := x, detail := d, repeated := (s.notices.pending.get c).isSome }
      else s.notices.pending.get c
  quiet : (∀ c, told c = none) → t.link = s.link.answered r ∧ t.notices = s.notices
  silent : LineInv s → (∀ c, told c ≠ none → 3 ≤ s.setup.levels.get c) →
    t.link = s.link.answered r ∧ t.notices.pending = s.notices.pending
  either : LineInv s → s.link.tx = .idle → ∀ c d n, told c = some d → s.setup.levels.get c < 3 →
    (∀ k, k ≠ c → told k ≠ none → 3 ≤ s.setup.levels.get k) →
    n = { station := x, detail := d, repeated := false } →
    t.link = s.link.answered r ∧ t.notices.pending = s.notices.pending.set c (some n) ∨
      t.link = { s.link.answered r with
        tx := .notice s.link.sequence (s.setup.levels.get c) c n, slot := some r,
        sequence := (s.link.sequence + 1) % 256 } ∧ t.notices.pending = s.notices.pending

/-! ## Frames dispatched -/

/-- The screen answers BUSY: a store in flight, but for the two status requests, or an open phase, but for the
requests that act in it, status and Link Reset (R174, checks 2 and 3). -/
def ScreenedBusy (s : State) (k : Byte) : Prop :=
  s.store.storing.isSome = true ∧ k ∉ [0x71#8, 0x72#8] ∨
    s.program.transfer.isSome = true ∧ k ∉ [0x21#8, 0x22#8, 0x71#8, 0x72#8, 0x79#8]

/-- A good frame of kind k, tag and body dispatched from s, a state in HUNT with an empty slot that has not yet
counted it: it runs as its request row, or is refused by the screen in the order of its checks, or is a Write Setup
of no group (R172 to R174, R181). A kind of no request may be answered with a free reply kind (log 10). -/
structure Dispatched (s : State) (k tag : Byte) (body : List Byte) (o : Host.Outcome State Fault Refusal) :
    Prop where
  row : ∀ (i : Instr) (r : Request), i.request? = some (tag, r) → r.kind = k → r.body = body → o = exec i s
  unknown : k.toNat ∉ requestKinds →
    o = .next { s with
      link := s.link.answered { kind := k, tag := tag, answer := refuse .unknown .noDetail } }
  busy : k.toNat ∈ requestKinds → ScreenedBusy s k →
    o = .next { s with link := s.link.answered { kind := k, tag := tag, answer := refuse .busy .noDetail } }
  group : ∀ g rest, k = 0x7A#8 → body = g :: rest → 16 < g.toNat → Unscreened s →
    o = .next { s with link := s.link.answered { kind := k, tag := tag, answer := refuse .badField .group } }
  frame : k.toNat ∈ requestKinds → ¬ScreenedBusy s k →
    (∀ (i : Instr) (r : Request), i.request? = some (tag, r) → r.kind = k → r.body ≠ body) →
    (∀ g rest, k = 0x7A#8 → body = g :: rest → g.toNat ≤ 16) →
    o = .next { s with link := s.link.answered { kind := k, tag := tag, answer := refuse .badField .frame } }

/-! ## Fields of a request -/

/-- `off` is the offset of the first field whose check fails, in a table of offsets and checks (Table 10.5,
Note). -/
def FirstBad (fields : List (Nat × Bool)) (off : Nat) : Prop :=
  ∃ before after, fields = before ++ (off, false) :: after ∧ ∀ q ∈ before, q.2 = true

/-- The checks of a list of channel numbers whose first slot stands at an offset: a slot within the count names
a channel (R181, check 4). -/
def slotFields (offset count : Nat) (slots : List Byte) : List (Nat × Bool) :=
  (List.range slots.length).map fun i =>
    (offset + i, decide (i < count → (slots.getD i 0).toNat ≤ 7))

/-! ## One sample of a channel -/

/-- A raw count out of range (R32). -/
abbrev OutOfRange (r : Nat) : Prop := r ≤ 8 ∨ 4087 ≤ r

/-- The third sample out of range in a row of a channel not yet in FAULT (R32). -/
abbrev EntersFault (old : ChannelRecord) (r : Nat) : Prop :=
  OutOfRange r ∧ old.state ≠ .fault ∧ 2 ≤ old.outRun

/-- The fifth sample in range in a row of a channel in FAULT (R36). -/
abbrev Recovers (old : ChannelRecord) (r : Nat) : Prop :=
  ¬OutOfRange r ∧ old.state = .fault ∧ 4 ≤ old.goodRun

/-- One sample through range check, calibration, scaling, spike filter, fault and recovery (R32 to R36). -/
structure SampleJudged (p : ChannelSetup) (old new : ChannelRecord) (r : Nat) : Prop where
  raw : new.raw = r
  out : OutOfRange r → new.calibrated = old.calibrated ∧ new.value = old.value ∧
    new.outRun = min 255 (old.outRun + 1) ∧ new.goodRun = 0 ∧
    (EntersFault old r → new.state = .fault ∧ new.spikeRun = 0) ∧
    (¬EntersFault old r → new.state = old.state ∧ new.spikeRun = old.spikeRun)
  within : ¬OutOfRange r → new.outRun = 0 ∧ new.goodRun = min 255 (old.goodRun + 1) ∧
    (new.calibrated : Int) = max 0 (min 4095 (r + roundDiv ((r : Int) * p.gain) 16384 + p.offset)) ∧
    ∀ v, v = roundDiv (((new.calibrated : Int) - 2048) * p.span) 2048 + p.mount →
      (old.state = .stale ∨ Recovers old r → new.state = .valid ∧ new.value = v ∧ new.spikeRun = 0) ∧
      (old.state = .fault → ¬Recovers old r → new.state = .fault ∧ new.value = v ∧ new.spikeRun = 0) ∧
      (old.state = .valid ∨ old.state = .spikeHeld →
        (p.spike = 0 ∨ (v - old.value).natAbs ≤ p.spike →
          new.state = .valid ∧ new.value = v ∧ new.spikeRun = 0) ∧
        (∀ side run, 0 < p.spike →
          (side = .above ∧ old.value + p.spike < v ∨ side = .below ∧ v < old.value - p.spike) →
          run = (if 0 < old.spikeRun ∧ old.spikeSide = side then old.spikeRun + 1 else 1) →
          (4 ≤ run → new.state = .valid ∧ new.value = v ∧ new.spikeRun = 0) ∧
          (run < 4 → new.state = .spikeHeld ∧ new.value = old.value ∧ new.spikeRun = run ∧
            new.spikeSide = side)))

/-- The records and notices after the samples of a pass over the scan list, in list order, a list without repeats
(R25, R32, R36). The notice of a class names the last channel that posted it. One that is the only
occurrence of the pass acts as `State.occurred` says. -/
structure SamplesTaken (s t : State) (raw : Octet (BitVec 12)) : Prop where
  listed : s.setup.scan.list.Nodup → ∀ c ∈ s.setup.scan.list,
    SampleJudged (s.setup.channels.get c) (s.scanner.records.get c) (t.scanner.records.get c) (raw.get c).toNat
  others : ∀ c, c ∉ s.setup.scan.list → t.scanner.records.get c = s.scanner.records.get c
  faultFlag : s.setup.scan.list.Nodup → (t.notices.latched.channelFault = true ↔
    s.notices.latched.channelFault = true ∨
      ∃ c ∈ s.setup.scan.list, EntersFault (s.scanner.records.get c) (raw.get c).toNat)
  recoveredFlag : s.setup.scan.list.Nodup → (t.notices.latched.channelRecovered = true ↔
    s.notices.latched.channelRecovered = true ∨
      ∃ c ∈ s.setup.scan.list, Recovers (s.scanner.records.get c) (raw.get c).toNat)
  otherFlags : ∀ k, k ≠ .channelFault → k ≠ .channelRecovered →
    t.notices.latched.get k = s.notices.latched.get k
  busy : s.link.tx ≠ .idle → t.link = s.link ∧ ∀ k, k ≠ .channelFault → k ≠ .channelRecovered →
    t.notices.pending.get k = s.notices.pending.get k
  faultNotice : ∀ before c after, s.link.tx ≠ .idle → s.setup.levels.channelFault < 3 →
    s.setup.scan.list.Nodup → s.setup.scan.list = before ++ c :: after →
    EntersFault (s.scanner.records.get c) (raw.get c).toNat →
    (∀ k ∈ after, ¬EntersFault (s.scanner.records.get k) (raw.get k).toNat) →
    ∃ n, t.notices.pending.channelFault = some n ∧ n.station = s.travel.station ∧
      n.detail = .channelFault c (raw.get c).toNat
  recoveredNotice : ∀ before c after, s.link.tx ≠ .idle → s.setup.levels.channelRecovered < 3 →
    s.setup.scan.list.Nodup → s.setup.scan.list = before ++ c :: after →
    Recovers (s.scanner.records.get c) (raw.get c).toNat →
    (∀ k ∈ after, ¬Recovers (s.scanner.records.get k) (raw.get k).toNat) →
    ∃ n, t.notices.pending.channelRecovered = some n ∧ n.station = s.travel.station ∧
      n.detail = .channelRecovered c
  alone : LineInv s → s.setup.scan.list.Nodup → ∀ c ∈ s.setup.scan.list, ∀ k d,
    k = .channelFault ∧ EntersFault (s.scanner.records.get c) (raw.get c).toNat ∧
        d = .channelFault c (raw.get c).toNat ∨
      k = .channelRecovered ∧ Recovers (s.scanner.records.get c) (raw.get c).toNat ∧ d = .channelRecovered c →
    (∀ e ∈ s.setup.scan.list, e ≠ c → ¬EntersFault (s.scanner.records.get e) (raw.get e).toNat ∧
      ¬Recovers (s.scanner.records.get e) (raw.get e).toNat) →
    t.notices = Notices.occurred s k s.travel.station d ∧ t.link = Link.occurred s k s.travel.station d
  quiet : s.setup.scan.list.Nodup →
    (∀ c ∈ s.setup.scan.list, ¬EntersFault (s.scanner.records.get c) (raw.get c).toNat ∧
      ¬Recovers (s.scanner.records.get c) (raw.get c).toNat) →
    t.notices = s.notices ∧ t.link = s.link

/-! ## Travel through the program and past the obstacles -/

/-- The segments that lie behind a station (R43). -/
def behindAt (segs : List Segment) (x : Nat) : Nat := (segs.filter fun g => decide (g.start + g.length ≤ x)).length

/-- The segments that end above a station: those ahead and the current one (R43; log 45 for R45's other words). -/
def remainingAt (segs : List Segment) (x : Nat) : Nat :=
  (segs.filter fun g => decide (x < g.start + g.length)).length

/-- The low-water condition at a station: a list that is not empty, with no more segments remaining than the
threshold (R49). -/
def fewRemain (segs : List Segment) (x threshold : Nat) : Prop := segs ≠ [] ∧ remainingAt segs x ≤ threshold

/-- The effective cross-slope of a segment g of the list, and the code of its source: OWN 0, from the nearest
earlier segment that carries one CARRIED 1, from the carried base BASE 2, else DEFAULT 3 (R41, R60). -/
structure IsEffectiveSlope (p : Program) (dflt : Int) (g : Segment) (v : Int) (source : Nat) : Prop where
  own : ∀ a, g.slope = some a → v = a ∧ source = 0
  carried : ∀ before h between after a, p.segments = before ++ h :: (between ++ g :: after) → g.slope = none →
    h.slope = some a → (∀ k ∈ between, k.slope = none) → v = a ∧ source = 1
  base : ∀ before after a, p.segments = before ++ g :: after → g.slope = none →
    (∀ k ∈ before, k.slope = none) → p.base = some a → v = a ∧ source = 2
  default : ∀ before after, p.segments = before ++ g :: after → g.slope = none →
    (∀ k ∈ before, k.slope = none) → p.base = none → v = dflt ∧ source = 3

/-- What a change of position from `old` to `new` posts, with the segment that has become behind and the
remaining count when the low-water condition begins (R45, R47, R48, R49). -/
def programTold (old new : Position) (done : Option Segment) (low : Option Nat) (threshold : LowWater) :
    NoticeClass → Option NoticeDetail
  | .segmentDone => done.map fun g => .segmentDone g.id
  | .programGap =>
    match new with
    | .gap g next => if old.code = new.code then none else some (.programGap g.id next)
    | _ => none
  | .programEnd =>
    match new with
    | .beyond g => if old.code = new.code then none else some (.programEnd g.id (g.start + g.length) g.endStop)
    | _ => none
  | .programLow => low.map fun n => .programLow n threshold
  | _ => none

/-- What a change of position hands: the PROGRAM_END reason on crossing an end with end-stop set, target lost on
leaving the list over its start (R46, R48). -/
def programHands (old new : Position) : List Instr :=
  match new with
  | .beyond g => if old.code ≠ new.code ∧ g.endStop = true then [.reasonAdd .programEnd 0] else []
  | .before => if old.code = new.code then [] else [.targetLost]
  | _ => []

/-- The Program List after a station change from x to y: at a forward step the segment that ends at y is behind,
and with nine behind the first leaves the list and the carried base follows it; the low-water condition and the
occurrences of the new position (R45 to R49). An empty list does nothing. -/
structure ProgramMoved (s t : State) (dir : Direction) (x y : Nat) : Prop where
  segments : behindAt s.program.segments y ≤ 9 → t.program.segments =
    if dir = .forward ∧ behindAt s.program.segments y = 9 then s.program.segments.tail else s.program.segments
  base : behindAt s.program.segments y ≤ 9 → t.program.base =
    if dir = .forward ∧ behindAt s.program.segments y = 9 then
      match s.program.segments.head?.bind Segment.slope with
      | some v => some v
      | none => s.program.base
    else s.program.base
  transfer : t.program.transfer = s.program.transfer
  lowWater : s.program.segments ≠ [] → (t.program.lowWater = true ↔
    fewRemain t.program.segments y s.setup.control.lowWater.segments ∧
      (s.program.transfer = none ∨ s.program.lowWater = true))
  empty : s.program.segments = [] → t.program = s.program
  told : Told s t y
    (programTold (positionIn s.program.segments x) (positionIn t.program.segments y)
      (if dir = .forward then s.program.segments.find? fun g => g.start + g.length == y else none)
      (if s.program.lowWater = false ∧ t.program.lowWater = true then some (remainingAt t.program.segments y)
        else none)
      s.setup.control.lowWater)

/-- An obstacle entry after a station change from x to y: entered, left, or stayed outside (R73, R74, R75). -/
def Obstacle.carried (o : Obstacle) (dir : Direction) (x y : Nat) : Obstacle :=
  if o.start ≤ y ∧ y < o.start + o.length then
    if o.start ≤ x ∧ x < o.start + o.length then o
    else if o.passage = .closing then { o with state := .inside, passage := .opened }
    else { o with state := .inside, passage := .opened, sampled := false, breached := false, unsampled := false }
  else if o.start ≤ x ∧ x < o.start + o.length then
    { o with state := .depart, crossed := true, passage := .closing }
  else
    match o.state with
    | .approach =>
      if dir = .forward ∧ o.start + o.length ≤ y ∨ dir = .reverse ∧ y < o.start then
        { o with state := if o.crossed then .depart else .pending }
      else o
    | .depart => if y + 5000 < o.start then { o with state := .passed } else o
    | .passed => if y < o.start ∧ o.start ≤ y + 5000 then { o with state := .depart } else o
    | _ => o

/-- The table after a station change: each entry carried, and those whose last station lies more than 5000 cm
below the new station gone (R73 to R76). -/
def carriedTable (os : List Obstacle) (dir : Direction) (x y : Nat) : List Obstacle :=
  (os.map fun o => o.carried dir x y).filter fun o => decide (y ≤ o.start + o.length - 1 + 5000)

/-- The breach test at the live station, on the depths of the sides with a reference (R83, R160). -/
def BreachHolds (s : State) : Prop :=
  ∃ o ∈ s.obstacles, o.start ≤ s.travel.station ∧ s.travel.station < o.start + o.length ∧
    ∃ d, o.covers d = true ∧ (s.grade.sides.get d).reference = true ∧
      ((o.cap + o.tolerance.getD s.setup.control.tolerance : Nat) : Int) < (s.grade.sides.get d).depth

/-! ## References by the live records -/

/-- A channel on the scan list, of the kind, with a record VALID or SPIKE_HELD (R88, R120). -/
def LiveUsable (s : State) (kind : ChannelKind) (c : Channel) : Prop :=
  c ∈ s.setup.scan.list ∧ (s.setup.channels.get c).kind = kind ∧
    ((s.scanner.records.get c).state = .valid ∨ (s.scanner.records.get c).state = .spikeHeld)

/-- A side judged from the live records: a channel of its group, or, in SLOPE, one of the reference side's group and
the far slope channel (R120). -/
def LiveReference (s : State) (d : Side) : Prop :=
  let p := s.setup.geometry
  let inGroup (e : Side) : Prop :=
    ∃ c ∈ (if e = p.refSide then p.refGroup else p.farGroup).channels, LiveUsable s .distance c
  if (if d = p.refSide then p.refMode else p.farMode) = .slope then
    inGroup p.refSide ∧ LiveUsable s .slope p.slopeChannel
  else inGroup d

/-! ## The control step's question -/

/-- The zone faces the step sense at x (R79). -/
def Obstacle.faces (o : Obstacle) (v : Int) (x : Nat) : Prop :=
  if v < 0 then o.start + o.length ≤ x else x < o.start

/-- The entry is in approach for a side with target T at a step at x: PENDING, APPROACH or DEPART, covering the
side, facing the step sense, with its limit at x below T (R67, R79). -/
def Obstacle.approaches (o : Obstacle) (d : Side) (v : Int) (x : Nat) (target : Option Int) : Prop :=
  (o.state = .pending ∨ o.state = .approach ∨ o.state = .depart) ∧ o.covers d = true ∧ o.faces v x ∧
    ∃ n, target = some n ∧
      ((o.cap + (if x < o.start then o.start - x else x - (o.start + o.length - 1)) * o.q : Nat) : Int) < n

/-- The entry after the question of a step at x, but for its state: sampled inside the zone, a CLOSING passage
judged, and watched when found PENDING, APPROACH or INSIDE (R80). -/
def Obstacle.questioned (o : Obstacle) (x : Nat) : Obstacle :=
  { o with
    passage := if o.passage = .closing then .idle else o.passage,
    sampled := o.passage ≠ .closing ∧
      (o.sampled = true ∨ o.passage = .opened ∧ o.start ≤ x ∧ x < o.start + o.length),
    unsampled := o.unsampled = true ∨
      o.passage = .closing ∧ o.watched = true ∧ o.sampled = false ∧ ¬(o.start ≤ x ∧ x < o.start + o.length),
    watched := (o.state = .pending ∨ o.state = .approach ∨ o.state = .inside) ∨
      o.watched = true ∧ o.passage ≠ .closing }

/-- The least of 3500 and the limits over the window of the entries that cover a side, which E is (R77, R78). The
window runs from x in the step sense over the lookahead distance, within 0 to 16,777,215. -/
structure IsEnvelope (os : List Obstacle) (d : Side) (v : Int) (x ms E : Nat) : Prop where
  limits : ∀ lo hi : Nat, ∀ limit : Obstacle → Nat,
    lo = (if v < 0 then x - v.natAbs * ms / 1000 else x) →
    hi = (if v < 0 then x else min 16777215 (x + v.natAbs * ms / 1000)) →
    (∀ o, limit o =
      if lo < o.start + o.length ∧ o.start ≤ hi then o.cap
      else if hi < o.start then o.cap + (o.start - hi) * o.q
      else o.cap + (lo - (o.start + o.length - 1)) * o.q) →
    E ≤ 3500 ∧ (∀ o ∈ os, o.covers d = true → E ≤ limit o) ∧
      (E = 3500 ∨ ∃ o ∈ os, o.covers d = true ∧ E = limit o)

/-! ## The belt and the housing volume -/

/-- The belt follows its inputs: the command of the mode and the truck state, with minimum, purge and top-off cap,
or 0 by an override; the coil current of the command; the belt state, STALLED until cleared (R133, R134). -/
structure BeltFollows (p : ConveyorSetup) (c : Conveyor) : Prop where
  overridden : c.belt = .stalled ∨ c.supplyLow = true ∨ c.stopSense = true → c.command = 0
  table : c.belt ≠ .stalled → c.supplyLow = false → c.stopSense = false → ∀ purged,
    purged = max (max c.cutRate p.beltMin) (if 0 < c.housing then p.purge else 0) →
    (c.mode = .stop → c.command = 0) ∧ (c.mode = .manual → c.command = min 100 c.manualPercent) ∧
    (c.mode = .auto →
      (c.truck = .noTruck ∨ c.truck = .settling ∨ c.truck = .full → c.command = 0) ∧
      (c.truck = .loading → c.command = min 100 purged) ∧
      (c.truck = .topOff → c.command = min 100 (min purged p.topOff)))
  current : c.coil =
    if c.command = 0 then 0 else p.start + (2 * (c.command * (p.maximum - p.start)) + 100) / 200
  state : c.belt ≠ .stalled → c.belt = if 0 < c.command then .running else .stopped

/-- Whether HOUSING is held after the check of a housing volume h against the limit in litres (R140). -/
def housingHeldAfter (held : Bool) (limit h : Nat) : Bool :=
  if limit * 1000000 < h then true else if h ≤ limit * 500000 then false else held

/-- What the HOUSING check hands (R140). -/
def housingHands (held : Bool) (limit h : Nat) : List Instr :=
  if limit * 1000000 < h ∧ held = false then [.reasonAdd .housing 0]
  else if h ≤ limit * 500000 ∧ held = true then [.reasonWithdraw .housing]
  else []

/-- What the HOUSING check posts (R140). -/
def housingTold (held : Bool) (limit h : Nat) : NoticeClass → Option NoticeDetail
  | .housingHigh =>
    if limit * 1000000 < h ∧ held = false then some (.housingHigh (h / 1000000) limit) else none
  | _ => none

/-! ## Trucks -/

/-- The truck checks on a truck k with D mm3 delivered, whose state was `was`: FULL at the target, TOP_OFF at the
top-off point, else LOADING, with the lamp, the horn and the belt (R133, R144, R145). -/
structure TruckChecked (c : Conveyor) (was : TruckState) (k : Truck) (target margin topOff delivered : Nat) :
    Prop where
  full : target * 1000000 ≤ delivered →
    c.truck = .full ∧ c.current = some { k with delivered := delivered, endReason := some .full } ∧
      c.lamp = .off ∧ c.flashTimer = false ∧ c.hornTimer = true ∧ (c.mode = .auto → c.command = 0)
  topOff : delivered < target * 1000000 → target * 1000000 ≤ delivered + margin * 1000000 →
    c.truck = .topOff ∧ c.current = some { k with delivered := delivered } ∧
      (was = .loading → c.lamp = .flash ∧ c.lampLit = true ∧ c.flashTimer = true ∧
        (c.mode = .auto → c.command ≤ topOff))
  loading : delivered + margin * 1000000 < target * 1000000 →
    c.truck = .loading ∧ c.current = some { k with delivered := delivered } ∧
      (was = .topOff → c.lamp = .steady ∧ c.flashTimer = false)

/-! ## Legs -/

/-- The current of the coil that u drives, rounded half up (stage 13, R116). -/
def drivenCurrent (p : LegSetup) (u : Int) : Nat :=
  if u = 0 then 0 else p.start + (2 * (u.natAbs * (p.maximum - p.start)) + 1000) / 2000

/-- A leg with applied output u: RAISE for a negative and LOWER for a positive output, the other coil at 0
(R116). -/
def Leg.driven (l : Leg) (p : LegSetup) (u : Int) : Leg :=
  { l with
    output := u, raiseCoil := if u < 0 then drivenCurrent p u else 0,
    lowerCoil := if 0 < u then drivenCurrent p u else 0 }

/-- A leg put in a mode with its output at 0 and its jog ended (R117, R124). -/
def Leg.restedIn (l : Leg) (m : LegMode) : Leg :=
  { l with mode := m, output := 0, raiseCoil := 0, lowerCoil := 0, jog := none }

/-- The reports of a leg that leaves AUTO: left-AUTO, and, when the other leg is not in AUTO, the report that
none remains (R124). -/
def leftAutoReports (s : State) (d : Side) : List Instr :=
  if (legOf s d).mode = .auto then
    [Instr.leftAutoReport d] ++ if (legOf s d.other).mode = .auto then [] else [Instr.noLegAutoReport]
  else []

end Sys2Proof.Machine
end

