-- ==== Sys2Proof/Certificates/Slice0/Obligations.lean ====
section
/-! DEFINITION. The statements for the provers: what each family of commands does to the state, the
invariants every step keeps, and how a request comes off the wire. -/

open Sys2Proof Sys2Proof.Machine

/-! ## The step, the invariants, the wire -/

/-- A step runs the command at the front of the queue on the state with the queue's rest. -/
def Obligations.StepRunsFrontCommand : Prop :=
  ∀ (c : Instr) (rest : List Instr) (s : State), s.pending = c :: rest →
    step s = exec c { s with pending := rest }

/-- On an empty queue the step takes the oldest event in flight, and with none the block idles: the model's
choice, logs 1 and 2. -/
def Obligations.EmptyQueueStep : Prop :=
  (∀ (e : Instr) (es : List Instr) (s : State), s.pending = [] → s.handed = e :: es → step s = exec e s) ∧
  (∀ s : State, s.pending = [] → s.handed = [] → step s = .next s)

/-- The invariants hold right after reset. -/
def Obligations.ResetMeetsInvariants : Prop :=
  LegsInv State.reset ∧ CapInv State.reset ∧ LineInv State.reset ∧ TravelInv State.reset ∧
    ProgramInv State.reset ∧ TablesInv State.reset

/-- No step drives both coils of a leg, or any coil of a leg in OFF or HOLD or under a low supply. -/
def Obligations.LegsInvKept : Prop :=
  ∀ s t : State, LegsInv s → step s = .next t → LegsInv t

/-- Every step leaves the speed cap at the least of the setup maximum and the caps present. -/
def Obligations.CapInvKept : Prop :=
  ∀ s t : State, CapInv s → step s = .next t → CapInv t

/-- No step leaves an IDLE line with a reply or a notice waiting, or a request held behind an empty slot. -/
def Obligations.LineInvKept : Prop :=
  ∀ s t : State, LineInv s → step s = .next t → LineInv t

/-- Every step keeps the travel count within the ranges of Table 1.1. -/
def Obligations.TravelInvKept : Prop :=
  ∀ s t : State, TravelInv s → step s = .next t → TravelInv t

/-- Every step keeps the program list in order, disjoint, with unique ids and within 104 segments. -/
def Obligations.ProgramInvKept : Prop :=
  ∀ s t : State, ProgramInv s → step s = .next t → ProgramInv t

/-- Every step keeps the obstacle table ordered and within 24 entries, and the truck log within 32. -/
def Obligations.TablesInvKept : Prop :=
  ∀ s t : State, TablesInv s → step s = .next t → TablesInv t

/-- Every request row's kind and body, as they stand on the wire, are read back as that request. -/
def Obligations.RequestsReadBack : Prop :=
  ∀ (i : Instr) (tag : Byte) (r : Request), i.request? = some (tag, r) →
    lengthOk r.kind r.body = true ∧ parseRequest r.kind r.body = some r

/-- A request row is its frame: the bytes of Table 10.2, received one after another, leave the same
state. That a row stands for its whole frame is the model's choice, log 5. -/
def Obligations.RequestRowIsItsFrame : Prop :=
  ∀ (i : Instr) (tag : Byte) (r : Request) (s : State), i.request? = some (tag, r) → s.store.phase ≠ .load →
    exec i s = .next (feed s (frameBytes r.kind tag r.body))

/-! ## Resets and start-up -/

/-- A full reset leaves every block at the value its chapter gives, the encoder's phase state at the levels
present, and the stored copy and the store-begun mark as they were. Values the spec leaves open are the model's
choices, logs 12, 14 and 15; that the events in flight are dropped, and the queue, the free-value counter and the
stored-setup state kept, is log 28. -/
def Obligations.FullResetLeaves : Prop :=
  ∀ (a b : Bool) (s : State), ∃ t, exec (.fullReset a b) s = .next t ∧
    t.travel =
      { phaseA := a, phaseB := b, edges := 0, station := 0, frac := 0, dir := .forward,
        window := List.replicate 10 0, speed := 0, standstill := true, standstillTimer := false,
        triggerCount := 0, triggerTimer := some 200 } ∧
    (t.scanner.state = .stopped ∧ (t.scanner.taken, t.scanner.dropped, t.scanner.completed) = (0, 0, 0) ∧
      t.scanner.settleTimer = none ∧ t.scanner.intervalTimer = none ∧ t.scanner.parkTimer = none ∧
      t.scanner.parkDue = false ∧ t.scanner.inFlight = none ∧ t.scanner.samples = [] ∧
      (∀ c, t.scanner.records.get c =
        { raw := 0, calibrated := 0, value := 0, state := .stale, outRun := 0, goodRun := 0, spikeRun := 0,
          spikeSide := .above })) ∧
    (t.program = { segments := [], base := none, lowWater := false, transfer := none } ∧ t.obstacles = []) ∧
    (t.grade.base = none ∧ t.grade.remainder = 0 ∧ t.grade.ramp = none ∧
      ∀ d, t.grade.sides.get d =
        { reference := false, depth := 0, inUse := none, lastUsed := none, target := none, envelope := 3500,
          effective := 0, error := 0, command := none, approach := false, refHold := false, trim := 0 }) ∧
    (t.legs.stopSense = false ∧ t.legs.supplyLow = false ∧
      ∀ d, legOf t d =
        { mode := .off, output := 0, raiseCoil := 0, lowerCoil := 0, jog := none, upper := false,
          lower := false }) ∧
    t.conveyor =
      { mode := .stop, manualPercent := 0, belt := .stopped, cutRate := 0, command := 0, coil := 0, measured := 0,
        pulseCount := 0, stallRun := 0, stopSense := false, supplyLow := false, housing := 0, totalCut := 0,
        totalDelivered := 0, unattributed := 0, housingHeld := false, truck := .noTruck, settleTimer := none,
        current := none, nextNumber := 1, lamp := .off, lampLit := false, flashTimer := false,
        hornTimer := false, log := [] } ∧
    (∀ r, t.advance.holds.get r = if r = .startup then some 0 else none) ∧
    (t.advance.speedCap = 0 ∧ t.advance.permit = false) ∧
    (∀ k, t.inputs.get k = { accepted := .unknown, run := 0, last := none }) ∧
    t.supply = { state := .start, last := 0 } ∧
    (∀ c, t.notices.pending.get c = none ∧ t.notices.latched.get c = false) ∧
    t.link =
      { rx := .hunt, slot := none, tx := .idle, sequence := 0,
        counters := { good := 0, check := 0, length := 0, silence := 0, overrun := 0 }, baud := .b115200 } ∧
    t.store =
      { working := factorySetup, stored := s.store.stored, begun := s.store.begun, storing := none,
        phase := .load, storedState := s.store.storedState } ∧
    t.handed = [] ∧ t.pending = s.pending ∧ t.freeCount = s.freeCount

/-- The load takes a sound stored copy, or else the factory defaults with the cause in SETUP_DEFAULTED, which
stands pending behind a frame on the line and goes out at once on an IDLE line; the speed cap follows the loaded
maximum, and the phase becomes SUPPLY_WAIT. The stored copy's form is the model's choice, log 15. -/
def Obligations.SetupLoadTakesTheStoredCopy : Prop :=
  ∀ s : State, s.store.phase = .load →
    (∀ p, s.store.begun = false → s.store.stored = some p →
      ∃ t, exec .setupLoad s = .next t ∧ t.store = { s.store with working := p, phase := .supplyWait, storedState := .stored } ∧
        t.link = { s.link with baud := p.baud } ∧ t.notices.latched = s.notices.latched ∧
        t.travel.station = s.travel.station ∧ t.travel.dir = s.travel.dir ∧ t.travel.frac = 0 ∧
        t.travel.edges = 0 ∧ t.travel.triggerCount = 0 ∧ t.legs = s.legs ∧ t.scanner = s.scanner ∧
        t.advance.holds = s.advance.holds ∧ CapInv t) ∧
    (∀ cause : DefaultCause,
      (s.store.begun = true ∧ cause = .interrupted ∨
        s.store.begun = false ∧ s.store.stored = none ∧ cause = .check) →
      ∃ t, exec .setupLoad s = .next t ∧
        t.store = { s.store with working := factorySetup, phase := .supplyWait, storedState := .defaults } ∧
        t.link.baud = .b115200 ∧ t.notices.latched.setupDefaulted = true ∧
        t.advance.holds = s.advance.holds ∧ CapInv t ∧
        t.travel.station = s.travel.station ∧ t.travel.dir = s.travel.dir ∧ t.travel.frac = 0 ∧
        t.travel.edges = 0 ∧ t.travel.triggerCount = 0 ∧ t.legs = s.legs ∧ t.scanner = s.scanner ∧
        (s.link.tx ≠ .idle → t.link = { s.link with baud := .b115200 } ∧
          ∃ n, t.notices.pending.setupDefaulted = some n ∧ n.detail = .setupDefaulted cause ∧
            n.station = s.travel.station) ∧
        (s.link.tx = .idle → LineInv s →
          (∀ c, t.notices.pending.get c = none) ∧
          t.link = { s.link with
            baud := .b115200, sequence := (s.link.sequence + 1) % 256,
            tx := .notice s.link.sequence 1 .setupDefaulted
              { station := s.travel.station, detail := .setupDefaulted cause, repeated := false } }))

/-- The settle timer's end: STARTUP leaves the set with the supply NORMAL, and otherwise the wait begins
again. -/
def Obligations.StartupSettleExpiryEnds : Prop :=
  ∀ s : State, s.store.phase = .settle →
    (s.supply.state = .normal →
      ∃ t, exec .startupSettleExpiry s = .next t ∧
        t = { s with
          store := { s.store with phase := .done },
          advance := t.advance } ∧
        t.advance.holds = s.advance.holds.set .startup none ∧
        t.advance.speedCap = leastCap t.advance.holds s.setup.limits.maxSpeed ∧
        t.advance.permit = decide (0 < t.advance.speedCap)) ∧
    (s.supply.state ≠ .normal →
      exec .startupSettleExpiry s = .next { s with store := { s.store with phase := .supplyWait } })

/-! ## Travel -/

/-- The fourth forward edge counts a forward pulse: f, the station, direction, window, standstill and its timers,
with the standstill end event. A pulse that moves the station carries it through the program and past the
obstacles; one that does not leaves them as they were. At the top of the range f + 100 stays below P. The remaining
count is R43's and not the one R45's words give (log 45). What is handed stands in any order (log 1). -/
def Obligations.ForwardPulse : Prop :=
  ∀ (a b : Bool) (s : State) (p x f : Nat),
    forwardEdge s.setup.geometry.sense s.travel.phaseA s.travel.phaseB a b → s.travel.edges = 3 →
    s.setup.geometry.pulses = p → s.travel.station = x → s.travel.frac = f →
    100 ≤ p → f < p → (p ≤ f + 100 → x < maxStation) →
    ∃ t ended, exec (.encoderEdge a b) s = .next t ∧
      ended = (if s.travel.standstill then [Instr.standstillEndEvent] else []) ∧
      t.travel.phaseA = a ∧ t.travel.phaseB = b ∧ t.travel.edges = 0 ∧
      t.travel.station = (if p ≤ f + 100 then x + 1 else x) ∧
      t.travel.frac = (if p ≤ f + 100 then f + 100 - p else f + 100) ∧
      t.travel.dir = .forward ∧ t.travel.standstill = false ∧ t.travel.standstillTimer = true ∧
      t.travel.triggerTimer = none ∧ t.travel.speed = s.travel.speed ∧
      t.travel.window = (match s.travel.window with | [] => [1] | n :: ns => (n + 1) :: ns) ∧
      (s.travel.standstill = true → .standstillEndEvent ∈ t.handed) ∧
      (f + 100 < p → t.program = s.program ∧ t.obstacles = s.obstacles ∧ t.notices = s.notices ∧
        t.link = s.link ∧ t.travel.triggerCount = s.travel.triggerCount ∧ t.handed = s.handed ++ ended) ∧
      (p ≤ f + 100 → t.travel.triggerCount =
          (if s.setup.scan.distance ≤ s.travel.triggerCount + 1 then 0 else s.travel.triggerCount + 1) ∧
        (s.setup.scan.distance ≤ s.travel.triggerCount + 1 → .triggerTaken .distance (x + 1) ∈ t.handed) ∧
        t.obstacles = carriedTable s.obstacles .forward x (x + 1) ∧
        (ProgramInv s → ProgramMoved s t .forward x (x + 1) ∧
          t.handed.Perm (s.handed ++ ended ++
            programHands (positionIn s.program.segments x) (positionIn t.program.segments (x + 1)) ++
            (if s.setup.scan.distance ≤ s.travel.triggerCount + 1 then [.triggerTaken .distance (x + 1)]
              else [])))) ∧
      PulseFrame s t

/-- The fourth reverse edge counts a reverse pulse, the mirror of the forward one (log 45 too). At the bottom of the
range f stays at or above 0. That an obstacle entry takes one change of state at a station change, so that a crossed
APPROACH entry left more than 5000 cm above goes to DEPART, is log 29. -/
def Obligations.ReversePulse : Prop :=
  ∀ (a b : Bool) (s : State) (p x f : Nat),
    forwardEdge s.setup.geometry.sense a b s.travel.phaseA s.travel.phaseB → s.travel.edges = -3 →
    s.setup.geometry.pulses = p → s.travel.station = x → s.travel.frac = f →
    100 ≤ p → f < p → (f < 100 → 0 < x) →
    ∃ t ended, exec (.encoderEdge a b) s = .next t ∧
      ended = (if s.travel.standstill then [Instr.standstillEndEvent] else []) ∧
      t.travel.phaseA = a ∧ t.travel.phaseB = b ∧ t.travel.edges = 0 ∧
      t.travel.station = (if 100 ≤ f then x else x - 1) ∧
      t.travel.frac = (if 100 ≤ f then f - 100 else f + p - 100) ∧
      t.travel.dir = .reverse ∧ t.travel.standstill = false ∧ t.travel.standstillTimer = true ∧
      t.travel.triggerTimer = none ∧ t.travel.speed = s.travel.speed ∧
      t.travel.window = (match s.travel.window with | [] => [-1] | n :: ns => (n - 1) :: ns) ∧
      (s.travel.standstill = true → .standstillEndEvent ∈ t.handed) ∧
      (100 ≤ f → t.program = s.program ∧ t.obstacles = s.obstacles ∧ t.notices = s.notices ∧
        t.link = s.link ∧ t.travel.triggerCount = s.travel.triggerCount ∧ t.handed = s.handed ++ ended) ∧
      (f < 100 → t.travel.triggerCount =
          (if s.setup.scan.distance ≤ s.travel.triggerCount + 1 then 0 else s.travel.triggerCount + 1) ∧
        (s.setup.scan.distance ≤ s.travel.triggerCount + 1 → .triggerTaken .distance (x - 1) ∈ t.handed) ∧
        t.obstacles = carriedTable s.obstacles .reverse x (x - 1) ∧
        (ProgramInv s → ProgramMoved s t .reverse x (x - 1) ∧
          t.handed.Perm (s.handed ++ ended ++
            programHands (positionIn s.program.segments x) (positionIn t.program.segments (x - 1)) ++
            (if s.setup.scan.distance ≤ s.travel.triggerCount + 1 then [.triggerTaken .distance (x - 1)]
              else [])))) ∧
      PulseFrame s t

/-- Edges that count no pulse: an edge within a cycle, a skipped state, and a pulse discarded at either end of
the station's range. Only the phase state and the edge count change. -/
def Obligations.EdgesWithoutPulse : Prop :=
  ∀ (a b : Bool) (s : State),
    (forwardEdge s.setup.geometry.sense s.travel.phaseA s.travel.phaseB a b → s.travel.edges < 3 →
      exec (.encoderEdge a b) s =
        .next { s with travel := { s.travel with phaseA := a, phaseB := b, edges := s.travel.edges + 1 } }) ∧
    (forwardEdge s.setup.geometry.sense a b s.travel.phaseA s.travel.phaseB → -3 < s.travel.edges →
      exec (.encoderEdge a b) s =
        .next { s with travel := { s.travel with phaseA := a, phaseB := b, edges := s.travel.edges - 1 } }) ∧
    (a ≠ s.travel.phaseA → b ≠ s.travel.phaseB →
      exec (.encoderEdge a b) s =
        .next { s with travel := { s.travel with phaseA := a, phaseB := b, edges := 0 } }) ∧
    (forwardEdge s.setup.geometry.sense s.travel.phaseA s.travel.phaseB a b → s.travel.edges = 3 →
      s.travel.station = maxStation → s.setup.geometry.pulses ≤ s.travel.frac + 100 →
      exec (.encoderEdge a b) s =
        .next { s with travel := { s.travel with phaseA := a, phaseB := b, edges := 0 } }) ∧
    (forwardEdge s.setup.geometry.sense a b s.travel.phaseA s.travel.phaseB → s.travel.edges = -3 →
      s.travel.station = 0 → s.travel.frac < 100 →
      exec (.encoderEdge a b) s =
        .next { s with travel := { s.travel with phaseA := a, phaseB := b, edges := 0 } })

/-- The speed window slides and the speed follows it; the standstill timer's end begins standstill; the
standstill trigger timer's end issues a trigger and starts again. That the ten intervals of the window count the
empty one just begun is the model's reading of R8, log 16. -/
def Obligations.TravelTimers : Prop :=
  (∀ s : State, ∃ w, w = 0 :: s.travel.window.dropLast ∧
    exec .speedIntervalEnd s =
      .next { s with travel := { s.travel with
        window := w,
        speed := if s.travel.standstill then 0
          else max (-999) (min 999 (Int.tdiv (w.sum * 400) s.setup.geometry.pulses)) } }) ∧
  (∀ s : State, s.travel.standstillTimer = true →
    exec .standstillTimerExpiry s =
      .next { s with
        travel := { s.travel with
          standstill := true, speed := 0, standstillTimer := false,
          triggerTimer := some s.setup.scan.standstillPeriod },
        handed := s.handed ++ [.standstillBeginEvent] }) ∧
  (∀ (s : State) (n : Nat), s.travel.triggerTimer = some n →
    exec .standstillTriggerTimerExpiry s =
      .next { s with
        travel := { s.travel with triggerTimer := some s.setup.scan.standstillPeriod },
        handed := s.handed ++ [.triggerTaken .standstill s.travel.station] })

/-- Set Station: BUSY in a transfer phase or a store; accepted when the four conditions of R13 hold, and
refused with the first that does not. That a refusal carries no fields is the model's reading, log 26. -/
def Obligations.SetStationByItsConditions : Prop :=
  ∀ (tag : Byte) (x : BitVec 24) (s : State), Listening s →
    (¬Unscreened s →
      exec (.setStation tag x) s =
        .next { s with link := s.link.answered (replyTo tag (.setStation x) (refuse .busy .noDetail)) }) ∧
    (Unscreened s → s.travel.standstill = true → NoAuto s → s.program.segments = [] → s.obstacles = [] →
      exec (.setStation tag x) s =
        .next { s with
          travel := { s.travel with station := x.toNat, frac := 0, edges := 0, triggerCount := 0 },
          grade := { s.grade with base := none },
          scanner := { s.scanner with
            inFlight := s.scanner.inFlight.map fun f => { f with stationSet := true } },
          link := s.link.answered (replyTo tag (.setStation x) (answer .done [field3 x.toNat])) }) ∧
    (∀ d : DetailCode, Unscreened s →
      (s.travel.standstill = false ∧ d = .moving ∨
        s.travel.standstill = true ∧ ¬NoAuto s ∧ d = .legAuto ∨
        s.travel.standstill = true ∧ NoAuto s ∧ s.program.segments ≠ [] ∧ d = .program ∨
        s.travel.standstill = true ∧ NoAuto s ∧ s.program.segments = [] ∧ s.obstacles ≠ [] ∧ d = .obstacles) →
      exec (.setStation tag x) s =
        .next { s with link := s.link.answered (replyTo tag (.setStation x) (refuse .notAllowed d)) })

/-! ## The scanner -/

/-- What the scanner does with a travel trigger, by its mode and its state. A dropped trigger is counted and
posts SCAN_OVERRUN. -/
def Obligations.TravelTriggerByState : Prop :=
  ∀ (k : TriggerKind) (x : Nat) (s u : State), k ≠ .interval →
    u = { s with handed := s.handed.erase (.triggerTaken k x) } →
    (s.setup.scan.mode = .interval → exec (.triggerTaken k x) s = .next u) ∧
    (s.setup.scan.mode = .distance →
      (s.scanner.state = .stopped ∨ s.scanner.state = .parked ∧ k = .standstill →
        exec (.triggerTaken k x) s = .next u) ∧
      (s.scanner.state = .armed →
        exec (.triggerTaken k x) s =
          .next { u with scanner := { s.scanner with
            state := .scanning, taken := (s.scanner.taken + 1) % 65536,
            inFlight := some { kind := some k, station := x, speed := s.travel.speed, stationSet := false } } }) ∧
      (s.scanner.state = .parked ∧ k = .distance →
        exec (.triggerTaken k x) s =
          .next { u with scanner := { s.scanner with
            state := .settling, settleTimer := some s.setup.scan.settle } }) ∧
      (s.scanner.state = .settling ∨ s.scanner.state = .scanning ∨ s.scanner.state = .single → LineInv s →
        exec (.triggerTaken k x) s =
          .next (State.occurred
            { u with scanner := { s.scanner with dropped := (s.scanner.dropped + 1) % 65536 } }
            .scanOverrun s.travel.station (.scanOverrun k s.scanner.state))))

/-- The settle timer's end arms the scanner, and in INTERVAL mode starts the interval timer; the interval
timer's end starts a scan in ARMED, is dropped in SCANNING, and runs on. -/
def Obligations.ScannerTimers : Prop :=
  ∀ (s : State) (n : Nat),
    (s.scanner.settleTimer = some n →
      exec .settleTimerExpiry s =
        .next { s with scanner := { s.scanner with
          state := .armed, settleTimer := none,
          intervalTimer :=
            if s.setup.scan.mode = .interval then some (s.setup.scan.prescaler * s.setup.scan.period)
            else none } }) ∧
    (s.scanner.intervalTimer = some n → s.scanner.state = .armed →
      exec .intervalTimerExpiry s =
        .next { s with scanner := { s.scanner with
          state := .scanning, taken := (s.scanner.taken + 1) % 65536,
          intervalTimer := some (s.setup.scan.prescaler * s.setup.scan.period),
          inFlight := some
            { kind := some .interval, station := s.travel.station, speed := s.travel.speed,
              stationSet := false } } }) ∧
    (s.scanner.intervalTimer = some n → s.scanner.state = .scanning → LineInv s →
      exec .intervalTimerExpiry s =
        .next (State.occurred
          { s with scanner := { s.scanner with
            dropped := (s.scanner.dropped + 1) % 65536,
            intervalTimer := some (s.setup.scan.prescaler * s.setup.scan.period) } }
          .scanOverrun s.travel.station (.scanOverrun .interval .scanning)))

/-- The park timer's end, the report that the last leg left AUTO, and the two standstill events: when the
scanner parks, when it marks park due, and what wakes it. -/
def Obligations.ParkingAndWaking : Prop :=
  ∀ (s parked due : State),
    parked = { s with scanner := { s.scanner with
      state := .parked, settleTimer := none, parkTimer := none, parkDue := false } } →
    due = { s with scanner := { s.scanner with parkTimer := none, parkDue := true } } →
    (∀ n, s.scanner.parkTimer = some n →
      (NoAuto s → s.scanner.state = .settling ∨ s.scanner.state = .armed →
        exec .parkTimerExpiry s = .next parked) ∧
      (¬NoAuto s ∨ s.scanner.state = .scanning → exec .parkTimerExpiry s = .next due)) ∧
    (s.scanner.parkDue = true → s.travel.standstill = true → NoAuto s →
      s.scanner.state = .settling ∨ s.scanner.state = .armed →
      exec .noLegAutoReport s = .next { parked with handed := s.handed.erase .noLegAutoReport }) ∧
    (s.scanner.parkDue = false ∨ s.travel.standstill = false →
      exec .noLegAutoReport s = .next { s with handed := s.handed.erase .noLegAutoReport }) ∧
    (s.setup.scan.mode = .distance → 0 < s.setup.scan.park →
      s.scanner.state = .settling ∨ s.scanner.state = .armed ∨ s.scanner.state = .scanning →
      exec .standstillBeginEvent s =
        .next { s with
          handed := s.handed.erase .standstillBeginEvent,
          scanner := { s.scanner with parkTimer := some (s.setup.scan.park * 1000) } }) ∧
    (s.setup.scan.mode = .interval ∨ s.setup.scan.park = 0 ∨
      s.scanner.state = .stopped ∨ s.scanner.state = .parked ∨ s.scanner.state = .single →
      exec .standstillBeginEvent s = .next { s with handed := s.handed.erase .standstillBeginEvent }) ∧
    exec .standstillEndEvent s =
      .next { s with
        handed := s.handed.erase .standstillEndEvent,
        scanner := { s.scanner with
          parkTimer := none, parkDue := false,
          state := if s.scanner.state = .parked then .settling else s.scanner.state,
          settleTimer :=
            if s.scanner.state = .parked then some s.setup.scan.settle else s.scanner.settleTimer } }

/-- A continuous scan ends: the listed channels' samples are judged and their records written, completed rises, and
one control step runs on the completion, whose copies are the records just written. Then the scanner is PARKED when
the mark is set and no leg is in AUTO, else ARMED. The completion's station becomes the base station, one cut report
is handed, and the blocks that the scan and its control step do not write are as they were. The raw counts come with
the command: log 13. -/
def Obligations.ScanEndCompletes : Prop :=
  ∀ (raw : Octet (BitVec 12)) (s : State) (f : ScanInFlight),
    s.scanner.state = .scanning → s.scanner.inFlight = some f →
    ∃ t u c, exec (.scanEnd raw) s = .next t ∧
      u = { s with
        scanner := { s.scanner with
          records := u.scanner.records, samples := [], inFlight := none,
          completed := (s.scanner.completed + 1) % 65536 },
        notices := u.notices, link := u.link } ∧
      SamplesTaken s u raw ∧
      c = { sequence := (s.scanner.completed + 1) % 65536, kind := f.kind, station := f.station, speed := f.speed,
            stationSet := f.stationSet,
            results := s.setup.scan.list.map fun ch =>
              { channel := ch, kind := (s.setup.channels.get ch).kind, record := u.scanner.records.get ch } } ∧
      t = { controlStep u c with
        scanner :=
          if s.scanner.parkDue = true ∧ NoAuto s then
            { u.scanner with state := .parked, settleTimer := none, parkTimer := none, parkDue := false }
          else { u.scanner with state := .armed } } ∧
      t.grade.base = (if f.stationSet then none else some f.station) ∧
      (∃ r, .cutReport r ∈ t.handed ∧ r.station = f.station ∧ r.sequence = t.scanner.completed) ∧
      t.travel = s.travel ∧ t.program = s.program ∧ t.legs = s.legs ∧ t.conveyor = s.conveyor ∧
      t.advance = s.advance ∧ t.inputs = s.inputs ∧ t.supply = s.supply ∧ t.store = s.store ∧
      t.pending = s.pending ∧ t.freeCount = s.freeCount

/-- A single pass ends: each listed channel's sample goes through range check, calibration, scaling, spike filter,
fault and recovery, with the notices of faults and recoveries; the scanner is STOPPED, no completion is handed, and
everything else is as it was. The raw counts come with the command: log 13. -/
def Obligations.ChannelProcessing : Prop :=
  ∀ (raw : Octet (BitVec 12)) (s : State), s.scanner.state = .single →
    ∃ t, exec (.singlePassEnd raw) s = .next t ∧
      t = { s with
        scanner := { s.scanner with
          state := .stopped, records := t.scanner.records, inFlight := none, samples := [] },
        notices := t.notices, link := t.link } ∧
      SamplesTaken s t raw

/-- Start Scan, Stop Scan and Single Scan where they are accepted, and refused with the first check that fails. -/
def Obligations.ScanRequestsAccepted : Prop :=
  ∀ (tag : Byte) (s : State), Accepting s →
    (s.scanner.state = .stopped → s.setup.scan.list ≠ [] →
      (s.setup.scan.mode = .interval →
        scanDuration s.setup ≤ s.setup.scan.prescaler * s.setup.scan.period) →
      exec (.startScan tag) s =
        .next { s with
          scanner := { s.scanner with
            state := .settling, settleTimer := some s.setup.scan.settle, taken := 0, dropped := 0,
            completed := 0,
            parkTimer :=
              if s.travel.standstill then
                (if s.setup.scan.mode = .distance ∧ 0 < s.setup.scan.park then some (s.setup.scan.park * 1000)
                else none)
              else s.scanner.parkTimer },
          grade := { s.grade with base := none },
          link := s.link.answered (replyTo tag .startScan (answer .done [u8 (scanDuration s.setup)])) }) ∧
    (NoAuto s → ∃ t, exec (.stopScan tag) s = .next t ∧
      t = { s with scanner := t.scanner, link := s.link.answered (replyTo tag .stopScan (answer .done [])) } ∧
      t.scanner = { s.scanner with
        state := .stopped, records := t.scanner.records, settleTimer := none, intervalTimer := none,
        parkTimer := none, parkDue := false, inFlight := none, samples := [] } ∧
      ∀ c, t.scanner.records.get c =
        { s.scanner.records.get c with state := .stale, outRun := 0, goodRun := 0, spikeRun := 0 }) ∧
    (s.scanner.state = .stopped → s.setup.scan.list ≠ [] →
      exec (.singleScan tag) s =
        .next { s with
          scanner := { s.scanner with
            state := .single,
            inFlight := some
              { kind := none, station := s.travel.station, speed := s.travel.speed, stationSet := false } },
          link := s.link.answered (replyTo tag .singleScan (answer .done [u8 (scanDuration s.setup)])) }) ∧
    (∀ a : Answer,
      (s.scanner.state ≠ .stopped ∧ a = refuse .notAllowed .running ∨
        s.scanner.state = .stopped ∧ s.setup.scan.list = [] ∧ a = refuse .notAllowed .emptyList) →
      exec (.startScan tag) s = .next { s with link := s.link.answered (replyTo tag .startScan a) } ∧
      exec (.singleScan tag) s = .next { s with link := s.link.answered (replyTo tag .singleScan a) }) ∧
    (s.scanner.state = .stopped → s.setup.scan.list ≠ [] → s.setup.scan.mode = .interval →
      s.setup.scan.prescaler * s.setup.scan.period < scanDuration s.setup →
      exec (.startScan tag) s =
        .next { s with link := s.link.answered (replyTo tag .startScan (refuse .badField .interval)) }) ∧
    (¬NoAuto s →
      exec (.stopScan tag) s =
        .next { s with link := s.link.answered (replyTo tag .stopScan (refuse .notAllowed .legAuto)) })

/-! ## The control step -/

/-- A control step, for each side: fusion in GRADE_ONE, GRADE_MEAN and SLOPE, the target, the envelope, the
effective target and the error as it records them, and the command it hands by law and slew to a side in AUTO with
a reference and a target. First the whole chain of a reference side in GRADE_ONE with one usable channel, inside a
segment and clear of obstacles; then each stage in every form. -/
def Obligations.ControlStepCommand : Prop :=
  (∀ (s : State) (c : Completion) (d : Side) (ch : Channel) (v last target m e : Int) (g : Segment)
    (raw : Int),
    s.obstacles = [] → s.setup.geometry.refSide = d → s.setup.geometry.refMode = .gradeOne →
    s.setup.geometry.refGroup.channels = [ch] → usableValue c .distance ch = some v →
    (legOf s d).mode = .auto → (legOf s d).output = last →
    positionIn s.program.segments c.station = .inside g →
    target = g.depth + roundDiv (((c.station : Int) - g.start) * g.grade) 100 + (s.grade.sides.get d).trim →
    m = max (-5000) (min 7000 v) →
    e = max (-2000) (min 2000 (max 0 (min 3500 target) - m)) →
    raw = (if (e.natAbs : Int) ≤ s.setup.control.deadband then 0
      else e.sign * min 1000 (s.setup.control.gain * ((e.natAbs : Int) - s.setup.control.deadband))) →
    .legCommand d (max (last - s.setup.control.slew) (min (last + s.setup.control.slew) raw)) ∈
        (controlStep s c).handed ∧
      ((controlStep s c).grade.sides.get d).error = e ∧ ((controlStep s c).grade.sides.get d).depth = m ∧
      ((controlStep s c).grade.sides.get d).target = some target ∧
      ((controlStep s c).grade.sides.get d).inUse = some ch) ∧
  (∀ (s : State) (x : Nat) (g : Segment), ∃ slope source,
    (ProgramInv s → IsEffectiveSlope s.program s.setup.control.defaultSlope g slope source) ∧
    (positionIn s.program.segments x = .inside g → targetAt s x =
      some { kind := .inside, depth := g.depth + roundDiv (((x : Int) - g.start) * g.grade) 100, slope := slope,
             id := g.id }) ∧
    (∀ next, positionIn s.program.segments x = .gap g next → targetAt s x =
      some { kind := .gap, depth := g.depth + roundDiv ((g.length : Int) * g.grade) 100, slope := slope,
             id := g.id }) ∧
    (positionIn s.program.segments x = .beyond g → targetAt s x =
      some { kind := .beyond, depth := g.depth + roundDiv ((g.length : Int) * g.grade) 100, slope := slope,
             id := g.id }) ∧
    (positionIn s.program.segments x = .empty ∨ positionIn s.program.segments x = .before →
      targetAt s x = none)) ∧
  (∀ (s t : State) (c : Completion) (d : Side) (p : Geometry) (mode : SideMode) (group : List Channel)
      (old new ref : GradeSide),
    t = controlStep s c → p = s.setup.geometry →
    mode = (if d = p.refSide then p.refMode else p.farMode) →
    group = (if d = p.refSide then p.refGroup.channels else p.farGroup.channels) →
    old = s.grade.sides.get d → new = t.grade.sides.get d → ref = t.grade.sides.get p.refSide →
    (mode = .gradeOne → ∀ before ch behind v, group = before ++ ch :: behind →
      (∀ k ∈ before, usableValue c .distance k = none) → usableValue c .distance ch = some v →
      new.reference = true ∧ new.depth = max (-5000) (min 7000 v) ∧ new.inUse = some ch ∧
        new.lastUsed = some ch ∧
        (∀ a, old.lastUsed = some a → a ≠ ch → t.notices.latched.referenceSwitched = true)) ∧
    (mode ≠ .slope → (∀ k ∈ group, usableValue c .distance k = none) →
      new.reference = false ∧ new.depth = old.depth ∧ new.inUse = none ∧ new.lastUsed = old.lastUsed) ∧
    (mode = .gradeMean → ∀ vs, vs = group.filterMap (usableValue c .distance) → vs ≠ [] →
      new.reference = true ∧ new.depth = max (-5000) (min 7000 (roundDiv vs.sum vs.length)) ∧
        new.inUse = none ∧ new.lastUsed = old.lastUsed) ∧
    (mode = .slope → d ≠ p.refSide →
      (∀ v, ref.reference = true → usableValue c .slope p.slopeChannel = some v →
        new.reference = true ∧
          new.depth = max (-5000) (min 7000 (ref.depth + roundDiv (v * p.width) 1000))) ∧
      (ref.reference = false ∨ usableValue c .slope p.slopeChannel = none →
        new.reference = false ∧ new.depth = old.depth) ∧
      new.inUse = none ∧ new.lastUsed = old.lastUsed) ∧
    (targetAt s c.station = none → new.target = none) ∧
    (∀ tg, targetAt s c.station = some tg →
      (d = p.refSide → new.target = some (tg.depth + old.trim)) ∧
      (d ≠ p.refSide → mode ≠ .slope →
        new.target = some (tg.depth + roundDiv (tg.slope * p.width) 1000 + old.trim)) ∧
      (d ≠ p.refSide → mode = .slope → ref.reference = true →
        new.target = some (ref.depth + roundDiv (tg.slope * p.width) 1000 + old.trim)) ∧
      (d ≠ p.refSide → mode = .slope → ref.reference = false → new.target = none))) ∧
  (∀ (s t : State) (c : Completion) (d : Side) (k : Control) (old new : GradeSide) (last raw : Int),
    t = controlStep s c → k = s.setup.control → last = (legOf s d).output →
    old = s.grade.sides.get d → new = t.grade.sides.get d →
    raw = (if (new.error.natAbs : Int) ≤ k.deadband then 0
      else new.error.sign * min 1000 (k.gain * ((new.error.natAbs : Int) - k.deadband))) →
    IsEnvelope s.obstacles d c.speed c.station k.lookahead new.envelope ∧
    (∀ T, new.target = some T → new.effective = max 0 (min 3500 (min T new.envelope))) ∧
    (new.target = none → new.effective = old.effective) ∧
    (new.reference = true → new.target ≠ none →
      new.error = max (-2000) (min 2000 (new.effective - new.depth))) ∧
    (new.reference = false ∨ new.target = none → new.error = old.error) ∧
    ((legOf s d).mode = .auto → new.reference = true → new.target ≠ none →
      ∃ u, u = max (last - k.slew) (min (last + k.slew) raw) ∧ new.command = some u ∧
        .legCommand d u ∈ t.handed) ∧
    ((legOf s d).mode ≠ .auto ∨ new.reference = false ∨ new.target = none →
      new.command = none ∧ ∀ u, .legCommand d u ∈ t.handed → .legCommand d u ∈ s.handed))

/-- The one cut report of a control step: the volume depth as the mean of what the sides with a reference contribute,
travel from the base station, bank volume, loose rate, and a loose volume that loses nothing to rounding, since the
remainder is carried to the next step. The base station follows. -/
def Obligations.CutReportVolumes : Prop :=
  ∀ (s t : State) (c : Completion) (p : Geometry) (swell : Nat) (a b : GradeSide), t = controlStep s c →
    p = s.setup.geometry → swell = s.setup.control.swell → a = t.grade.sides.left → b = t.grade.sides.right →
    ∃ r, .cutReport r ∈ t.handed ∧ (∀ q, .cutReport q ∈ t.handed → q = r ∨ .cutReport q ∈ s.handed) ∧
      r.sequence = c.sequence ∧ r.station = c.station ∧
      r.travel = (match s.grade.base with
        | some base => if c.stationSet then 0 else (c.station : Int) - base
        | none => 0) ∧
      (a.reference = true → b.reference = true →
        r.kind = .both ∧ r.depth = (a.depth.toNat + b.depth.toNat + 1) / 2) ∧
      (a.reference = true → b.reference = false → r.kind = .one ∧ r.depth = a.depth.toNat) ∧
      (a.reference = false → b.reference = true → r.kind = .one ∧ r.depth = b.depth.toNat) ∧
      (a.reference = false → b.reference = false → r.kind = .noDepth ∧ r.depth = 0) ∧
      r.bank = p.width * r.depth * r.travel.natAbs ∧
      r.rate = (p.width * r.depth * c.speed.natAbs * swell + 50) / 100 ∧
      r.bank * swell + s.grade.remainder = 100 * r.loose + t.grade.remainder ∧ t.grade.remainder < 100 ∧
      t.grade.base = if c.stationSet then none else some c.station

/-! ## Requests that only report -/

/-- The requests that change no block, with their refusals: the state but for the link, which has one more good
frame and the reply. The model's choices in their fields: an absent value as zero bytes (log 22), the side of no
spike (log 12), the codes of the position kinds (log 21), the 3 bytes of an offset (log 37), volumes that fit their
fields (logs 9 and 25), and the hardware revision (log 11). -/
def Obligations.QueriesOnlyReply : Prop :=
  ∀ (tag : Byte) (s : State), Accepting s →
    (∃ fs, exec (.readChannels tag) s =
        .next { s with link := s.link.answered (replyTo tag .readChannels (answer .done fs)) } ∧
      fs = [u8 s.scanner.state.code, u8 s.setup.scan.mode.code, flag s.scanner.parkDue,
          field2 s.scanner.taken, field2 s.scanner.dropped, field2 s.scanner.completed] ++
        allChannels.flatMap (fun c => (s.scanner.records.get c).fields (s.setup.channels.get c).kind) ++
        s.grade.sides.left.fields ++ s.grade.sides.right.fields) ∧
    (∀ (id : BitVec 16) (g : Segment),
      s.program.segments.find? (fun h => h.id == id.toNat) = some g →
      ∃ slope source,
      (ProgramInv s → IsEffectiveSlope s.program s.setup.control.defaultSlope g slope source) ∧
      exec (.querySegment tag id) s =
        .next { s with link := s.link.answered (replyTo tag (.querySegment id) (answer .done
          (g.fields ++ [field3 (g.start + g.length), signed2 (g.depth + roundDiv ((g.length : Int) * g.grade) 100),
            signed2 slope, u8 source,
            u8 (if g.start + g.length ≤ s.travel.station then 0 else if s.travel.station < g.start then 2 else 1)]))) }) ∧
    (∀ (x : BitVec 24) (g : Segment), positionIn s.program.segments x.toNat = .inside g →
      exec (.locateByStation tag x) s =
        .next { s with link := s.link.answered (replyTo tag (.locateByStation x) (answer .done
          [field2 g.id, field3 (x.toNat - g.start), u8 2])) }) ∧
    (∀ x : BitVec 24, s.program.segments = [] →
      exec (.locateByStation tag x) s =
        .next { s with link := s.link.answered (replyTo tag (.locateByStation x) (refuse .notFound .noDetail)) }) ∧
    (∀ (x : BitVec 24) (pre post : List Segment) (g : Segment) (kind : Nat), ProgramInv s →
      s.program.segments = pre ++ g :: post → g.start ≤ x.toNat → (∀ h ∈ post, x.toNat < h.start) →
      kind = (if x.toNat < g.start + g.length then 2 else if post = [] then 4 else 3) →
      exec (.locateByStation tag x) s =
        .next { s with link := s.link.answered (replyTo tag (.locateByStation x) (answer .done
          [field2 g.id, field3 (x.toNat - g.start), u8 kind])) }) ∧
    (∀ x : BitVec 24, ProgramInv s → s.program.segments ≠ [] → (∀ h ∈ s.program.segments, x.toNat < h.start) →
      exec (.locateByStation tag x) s =
        .next { s with link := s.link.answered (replyTo tag (.locateByStation x) (answer .done
          [field2 0, field3 0, u8 1])) }) ∧
    (∀ (id : BitVec 16) (off : BitVec 24) (g : Segment),
      s.program.segments.find? (fun h => h.id == id.toNat) = some g → off.toNat ≤ g.length →
      exec (.locateBySegment tag id off) s =
        .next { s with link := s.link.answered (replyTo tag (.locateBySegment id off) (answer .done
          [field3 (g.start + off.toNat)])) }) ∧
    (∀ (id : BitVec 16) (off : BitVec 24), (∀ g ∈ s.program.segments, g.id ≠ id.toNat) →
      exec (.querySegment tag id) s =
        .next { s with link := s.link.answered (replyTo tag (.querySegment id) (refuse .notFound .noDetail)) } ∧
      exec (.locateBySegment tag id off) s =
        .next { s with
          link := s.link.answered (replyTo tag (.locateBySegment id off) (refuse .notFound .noDetail)) }) ∧
    (∀ (id : BitVec 16) (off : BitVec 24) (g : Segment),
      s.program.segments.find? (fun h => h.id == id.toNat) = some g → g.length < off.toNat →
      exec (.locateBySegment tag id off) s =
        .next { s with
          link := s.link.answered (replyTo tag (.locateBySegment id off) (refuse .badField .offset)) }) ∧
    (∀ i : Byte, exec (.listObstacles tag i) s =
      .next { s with link := s.link.answered (replyTo tag (.listObstacles i) (answer .done
        (u8 s.obstacles.length :: ((s.obstacles.drop i.toNat).take 8).flatMap
          fun o => o.fields s.setup.control.tolerance))) }) ∧
    (∀ n a, s.conveyor.housing < 1000000 * 2 ^ 32 →
      (n = match s.conveyor.current with | some k => k.number | none => 0) →
      (a = match s.conveyor.current with | some k => k.delivered | none => 0) → a < 1000000 * 65536 →
      exec (.readTotals tag) s =
        .next { s with link := s.link.answered (replyTo tag .readTotals (answer .done
          [field8 (s.conveyor.totalCut / 1000000), field3 (s.conveyor.totalCut % 1000000),
           field8 (s.conveyor.totalDelivered / 1000000), field3 (s.conveyor.totalDelivered % 1000000),
           field8 (s.conveyor.unattributed / 1000000), field3 (s.conveyor.unattributed % 1000000),
           field4 (s.conveyor.housing / 1000000), field3 (s.conveyor.housing % 1000000),
           field2 (a / 1000000), field3 (a % 1000000), u8 s.conveyor.truck.code, field2 n,
           u8 s.conveyor.cutRate, u8 s.conveyor.command, u8 s.conveyor.measured,
           u8 s.conveyor.log.length])) }) ∧
    exec (.identify tag) s =
      .next { s with link := s.link.answered (replyTo tag .identify (answer .done
        ([84, 111, 114, 110, 97, 99, 104, 0, 0, 0, 0, 0].map u8 ++ [84, 71, 45, 55, 52, 48, 0, 0, 0, 0, 0, 0].map u8 ++
          [u8 Config.hardwareRevision.toNat, u8 s.store.storedState.code, u8 s.link.baud.code,
           field2 ((s.link.counters.good + 1) % 65536), field2 s.link.counters.check,
           field2 s.link.counters.length, field2 s.link.counters.silence, field2 s.link.counters.overrun]))) }

/-- Peek Status in every state that takes a frame, an open transfer phase and a store in flight included: DONE
with the record Read Status would carry, and no state but the link's changed. -/
def Obligations.PeekStatusChangesNothing : Prop :=
  ∀ (tag : Byte) (s : State), Listening s → ∃ fs,
    exec (.peekStatus tag) s =
      .next { s with link := s.link.answered (replyTo tag .peekStatus (answer .done fs)) } ∧
    ∃ t, exec (.readStatus tag) s = .next t ∧
      t.link = s.link.answered (replyTo tag .readStatus (answer .done fs))

/-- Read Setup: BUSY in a transfer phase or a store, GROUP for a number above 16, and otherwise DONE with the
group as the working setup holds it, after its group byte (the reading of log 23); no state but the link's
changes. -/
def Obligations.ReadSetupReplies : Prop :=
  ∀ (tag g : Byte) (s : State), Listening s →
    (¬Unscreened s →
      exec (.readSetup tag g) s =
        .next { s with link := s.link.answered (replyTo tag (.readSetup g) (refuse .busy .noDetail)) }) ∧
    (Unscreened s → 16 < g.toNat →
      exec (.readSetup tag g) s =
        .next { s with link := s.link.answered (replyTo tag (.readSetup g) (refuse .badField .group)) }) ∧
    (Unscreened s → g.toNat ≤ 16 → ∃ bs, groupBytes s.setup g.toNat = some bs ∧
      bs.length = groupLength g.toNat ∧
      exec (.readSetup tag g) s =
        .next { s with
          link := s.link.answered
            (replyTo tag (.readSetup g) (answer .done ((g :: bs).map fun b => u8 b.toNat))) })

/-- Read Status: the 35-byte record of Tables 9.2 and 10.10 as the state stood, with a program in order and H
within its 4 bytes (log 9); then every flag cleared but those of the six conditions that last and hold. The
pending notices stay. The codes of the position kinds are log 21, and the remaining count is R43's, log 45. -/
def Obligations.ReadStatusClearsFlags : Prop :=
  ∀ (tag : Byte) (s : State), Listening s → ∃ t,
    exec (.readStatus tag) s = .next t ∧
    t = { s with
      notices := { s.notices with latched := t.notices.latched },
      link := s.link.answered (replyTo tag .readStatus (answer .done (statusFields s))) } ∧
    (∀ c, t.notices.latched.get c =
      match c with
      | .supplyLow => decide (s.supply.state = .low)
      | .stopSense => decide (s.inputs.stopSense.accepted = .active)
      | .housingHigh => s.conveyor.housingHeld
      | .programLow => s.program.lowWater
      | .beltStall => decide (s.conveyor.belt = .stalled)
      | .referenceLost => s.grade.sides.left.refHold || s.grade.sides.right.refHold
      | _ => false) ∧
    ((statusFields s).map Field.size).sum = 35 ∧
    ∀ (segs : List Segment) (x id kind present ramp flags truck : Nat), ProgramInv s →
      segs = s.program.segments → x = s.travel.station → s.conveyor.housing < 1000000 * 2 ^ 32 →
      kind = (if segs = [] then 0 else if ∀ g ∈ segs, x < g.start then 1
        else if ∃ g ∈ segs, g.start ≤ x ∧ x < g.start + g.length then 2
        else if ∃ g ∈ segs, x < g.start then 3 else 4) →
      (∀ pre post g, segs = pre ++ g :: post → g.start ≤ x → (∀ h ∈ post, x < h.start) → id = g.id) →
      ((∀ g ∈ segs, x < g.start) → id = 0) →
      (∀ r : HoldReason, present.testBit (holdReasonCode r) = (s.advance.holds.get r).isSome) → present < 256 →
      ramp = s.advance.holds.ramp.getD 0 →
      (∀ c : NoticeClass, flags.testBit (classNumber c - 1) = s.notices.latched.get c) → flags < 2 ^ 20 →
      truck = (match s.conveyor.current with | some k => k.number | none => 0) →
      statusFields s =
        [u8 (legOf s .left).mode.code, u8 (legOf s .right).mode.code, u8 s.scanner.state.code, field3 x,
         signed2 s.travel.speed,
         u8 (if s.travel.standstill then 2 else if s.travel.dir = .forward then 0 else 1),
         field2 id, u8 kind, u8 (remainingAt segs x), u8 (behindAt segs x), u8 s.obstacles.length,
         u8 s.conveyor.mode.code, u8 s.conveyor.belt.code, u8 s.conveyor.truck.code, field2 truck,
         field4 (s.conveyor.housing / 1000000), field2 s.advance.speedCap, u8 present, field2 ramp,
         field2 s.supply.last,
         u8 ((if s.program.transfer.isSome then 1 else 0) + if s.store.storing.isSome then 2 else 0),
         field3 flags]

/-! ## The program -/

/-- A transfer phase opens with Load Segments, and closes by Abort Transfer and by the item timer, with the list kept
and the low-water condition evaluated; PROGRAM_LOW is posted where it begins to hold, at the timer after
TRANSFER_TIMEOUT. The remaining segments are counted as R43 does (log 45), and which of PROGRAM_LOW and the reply to
an Abort takes an IDLE line is free (log 6). Load Segments is refused COUNT or NO_ROOM, and Abort
Transfer without a phase NO_TRANSFER. -/
def Obligations.TransferOpensAndCloses : Prop :=
  ∀ (tag : Byte) (s : State),
    (∀ (count : Byte) (n : Nat), Accepting s → n = (if count.toNat = 0 then 16 else count.toNat) →
      (n ≤ 16 → s.program.segments.length + n ≤ 104 →
        exec (.loadSegments tag count) s =
          .next { s with
            program := { s.program with transfer := some { announced := n, accepted := 0 } },
            link := s.link.answered (replyTo tag (.loadSegments count)
              (answer .ready [u8 n, u8 (104 - s.program.segments.length)])) }) ∧
      (∀ a : Answer,
        (16 < n ∧ a = refuse .badField .count ∨
          n ≤ 16 ∧ 104 < s.program.segments.length + n ∧
            a = refuseValue .noRoom (104 - s.program.segments.length : Nat)) →
        exec (.loadSegments tag count) s =
          .next { s with link := s.link.answered (replyTo tag (.loadSegments count) a) })) ∧
    (Listening s → s.store.storing = none → s.program.transfer = none →
      exec (.abortTransfer tag) s =
        .next { s with
          link := s.link.answered (replyTo tag .abortTransfer (refuse .notAllowed .noTransfer)) }) ∧
    (∀ (tr : Transfer) (low : Bool) (n : Nat) (posted : Option NoticeDetail), ProgramInv s →
      s.program.transfer = some tr → n = remainingAt s.program.segments s.travel.station →
      (low = true ↔ fewRemain s.program.segments s.travel.station s.setup.control.lowWater.segments) →
      posted = (if low = true ∧ s.program.lowWater = false then
        some (.programLow n s.setup.control.lowWater) else none) →
      (Listening s → s.store.storing = none → ∃ t, exec (.abortTransfer tag) s = .next t ∧
        t = { s with
          program := { s.program with transfer := none, lowWater := low },
          notices := t.notices, link := t.link, freeCount := t.freeCount } ∧
        AnsweredTold s t
          (replyTo tag .abortTransfer (answer .aborted [u8 tr.accepted, u8 s.program.segments.length]))
          s.travel.station (fun c => if c = .programLow then posted else none)) ∧
      (∀ u, LineInv s →
        u = State.occurred { s with program := { s.program with transfer := none, lowWater := low } }
          .transferTimeout s.travel.station (.transferTimeout tr.accepted tr.announced) →
        exec .itemTimerExpiry s =
          .next (match posted with
            | some d => State.occurred u .programLow s.travel.station d
            | none => u)))

/-- A segment record during a transfer phase. A good one is appended at the far end and counted, program end ahead
is handed, and the last one announced closes the phase. One that fails a check is not appended: the phase closes
and the reply carries the first check that fails and the counts. One at or behind the station is refused PAST.
Without a phase a record is refused. The low-water condition is evaluated, with PROGRAM_LOW, and a machine past the
end may find itself in a gap. That unused bits of the flags byte and the
bytes of an absent cross-slope are ignored is the model's choice, log 30; the low-water condition counts the
remaining segments as R43 does, log 45, and which of a notice and the reply takes an IDLE line is free, log 6. -/
def Obligations.SegmentRecordAppends : Prop :=
  (∀ (tag : Byte) (r : SegmentWire) (s : State) (tr : Transfer) (g : Segment),
    Listening s → s.store.storing = none → s.program.transfer = some tr →
    g = { id := r.id.toNat, start := r.start.toNat, length := r.length.toNat, depth := r.depth.toNat,
          grade := r.grade.toInt, slope := if r.flags.getLsbD 1 then some r.slope.toInt else none,
          endStop := r.flags.getLsbD 0 } →
    1 ≤ g.id → 1 ≤ g.length → g.length ≤ 100000 → g.depth ≤ 3500 → -500 ≤ g.grade → g.grade ≤ 500 →
    (∀ v, g.slope = some v → -1000 ≤ v ∧ v ≤ 1000) → g.start + g.length ≤ maxStation →
    0 ≤ g.endDepth → g.endDepth ≤ 3500 → (∀ h ∈ s.program.segments, h.id ≠ g.id) →
    lastEnd s.program.segments ≤ g.start → s.travel.station < g.start + g.length →
    ∃ t segs, exec (.segmentRecord tag r) s = .next t ∧ segs = s.program.segments ++ [g] ∧
      t = { s with
        program := { s.program with
          segments := segs, lowWater := t.program.lowWater,
          transfer :=
            if tr.accepted + 1 < tr.announced then some { tr with accepted := tr.accepted + 1 } else none },
        handed := s.handed ++ [.programEndAhead],
        notices := t.notices, link := t.link, freeCount := t.freeCount } ∧
      (ProgramInv s →
        (t.program.lowWater = true ↔
          fewRemain segs s.travel.station s.setup.control.lowWater.segments ∧
            (tr.announced ≤ tr.accepted + 1 ∨ s.program.lowWater = true)) ∧
        AnsweredTold s t
          (replyTo tag (.segmentRecord r) (answer .done
            [u8 (tr.accepted + 1), u8 segs.length, flag (decide (tr.accepted + 1 < tr.announced))]))
          s.travel.station
          (programTold (positionIn s.program.segments s.travel.station) (positionIn segs s.travel.station) none
            (if s.program.lowWater = false ∧ t.program.lowWater = true then
              some (remainingAt segs s.travel.station) else none)
            s.setup.control.lowWater))) ∧
  (∀ (tag : Byte) (r : SegmentWire) (s : State) (tr : Transfer) (g : Segment) (a : Answer) (field : Option Nat)
      (reach deep twin overlap past : Prop),
    Listening s → s.store.storing = none → s.program.transfer = some tr →
    g = { id := r.id.toNat, start := r.start.toNat, length := r.length.toNat, depth := r.depth.toNat,
          grade := r.grade.toInt, slope := if r.flags.getLsbD 1 then some r.slope.toInt else none,
          endStop := r.flags.getLsbD 0 } →
    field = (if g.id = 0 then some 0 else if g.length = 0 ∨ 100000 < g.length then some 5
      else if 3500 < g.depth then some 8 else if g.grade < -500 ∨ 500 < g.grade then some 10
      else if g.slope.any (fun v => v < -1000 ∨ 1000 < v) then some 12 else none) →
    (reach ↔ 16777215 < g.start + g.length) → (deep ↔ g.endDepth < 0 ∨ 3500 < g.endDepth) →
    (twin ↔ ∃ h ∈ s.program.segments, h.id = g.id) → (overlap ↔ g.start < lastEnd s.program.segments) →
    (past ↔ g.start + g.length ≤ s.travel.station) →
    ((∃ off : Nat, field = some off ∧ a.code = .badField ∧ a.detail = .field ∧ a.value = off) ∨
      field = none ∧
        (reach ∧ a.code = .badField ∧ a.detail = .length ∧ a.value = 0 ∨
        ¬reach ∧ deep ∧ a.code = .badField ∧ a.detail = .grade ∧ a.value = 0 ∨
        ¬reach ∧ ¬deep ∧ twin ∧ a.code = .duplicate ∧ a.detail = .value ∧ a.value = g.id ∨
        ¬reach ∧ ¬deep ∧ ¬twin ∧ overlap ∧ a.code = .overlap ∧ a.detail = .value ∧
          a.value = lastEnd s.program.segments ∨
        ¬reach ∧ ¬deep ∧ ¬twin ∧ ¬overlap ∧ past ∧ a.code = .past ∧ a.detail = .value ∧
          a.value = s.travel.station)) →
    a.fields = [u8 tr.accepted, u8 s.program.segments.length, flag false] →
    ∃ t, exec (.segmentRecord tag r) s = .next t ∧
      t = { s with
        program := { s.program with transfer := none, lowWater := t.program.lowWater },
        notices := t.notices, link := t.link, freeCount := t.freeCount } ∧
      (ProgramInv s →
        (t.program.lowWater = true ↔
          fewRemain s.program.segments s.travel.station s.setup.control.lowWater.segments) ∧
        AnsweredTold s t (replyTo tag (.segmentRecord r) a) s.travel.station
          (fun c => if c = .programLow ∧ s.program.lowWater = false ∧ t.program.lowWater = true then
              some (.programLow (remainingAt s.program.segments s.travel.station) s.setup.control.lowWater)
            else none))) ∧
  (∀ (tag : Byte) (r : SegmentWire) (s : State), Listening s → s.store.storing = none →
    s.program.transfer = none →
    exec (.segmentRecord tag r) s =
      .next { s with
        link := s.link.answered (replyTo tag (.segmentRecord r) (refuse .notAllowed .noTransfer)) })

/-- Cut Program ends the program at c, past the station, and is refused PAST at or below it. The carried base is kept,
the position recomputed, with PROGRAM_END and its reason when the machine stood in a gap with nothing left ahead, and
the low-water condition evaluated, with PROGRAM_LOW; the remaining count is R43's (log 45), and which of a notice and
the reply takes an IDLE line is free (log 6). Clear Program empties the program while no leg is
in AUTO, and is refused LEG_AUTO otherwise. -/
def Obligations.CutAndClearProgram : Prop :=
  (∀ (tag : Byte) (c : BitVec 24) (s : State), Accepting s →
    (s.travel.station < c.toNat → ∃ t segs, exec (.cutProgram tag c) s = .next t ∧
      segs = ((s.program.segments.filter fun g => decide (g.start < c.toNat)).map fun g =>
        if c.toNat < g.start + g.length then { g with length := c.toNat - g.start } else g) ∧
      t = { s with
        program := { s.program with segments := segs, lowWater := t.program.lowWater },
        notices := t.notices, link := t.link, handed := t.handed, freeCount := t.freeCount } ∧
      (ProgramInv s →
        (t.program.lowWater = true ↔ fewRemain segs s.travel.station s.setup.control.lowWater.segments) ∧
        t.handed = s.handed ++
          programHands (positionIn s.program.segments s.travel.station) (positionIn segs s.travel.station) ∧
        AnsweredTold s t
          (replyTo tag (.cutProgram c)
            (answer .done [u8 (s.program.segments.length - segs.length), u8 segs.length]))
          s.travel.station
          (programTold (positionIn s.program.segments s.travel.station) (positionIn segs s.travel.station) none
            (if s.program.lowWater = false ∧ t.program.lowWater = true then
              some (remainingAt segs s.travel.station) else none)
            s.setup.control.lowWater))) ∧
    (c.toNat ≤ s.travel.station →
      exec (.cutProgram tag c) s =
        .next { s with
          link := s.link.answered (replyTo tag (.cutProgram c) (refuseValue .past s.travel.station)) })) ∧
  (∀ (tag : Byte) (s : State), Accepting s →
    (NoAuto s →
      exec (.clearProgram tag) s =
        .next { s with
          program := { s.program with segments := [], base := none, lowWater := false },
          link := s.link.answered (replyTo tag .clearProgram (answer .done [u8 s.program.segments.length])) }) ∧
    (¬NoAuto s →
      exec (.clearProgram tag) s =
        .next { s with
          link := s.link.answered (replyTo tag .clearProgram (refuse .notAllowed .legAuto)) }))

/-! ## Obstacles -/

/-- An entry that passes the checks of R69 takes its place in the table with its first state, and one that fails is
refused with the first that fails; a removed entry leaves the table, unless the machine is inside it with a side it
covers in AUTO, and one that is not there is NOT_FOUND. That an entry added around the station
begins uncrossed is the model's choice, log 40, as is that unused flag bits, an absent entry's tolerance byte and
the hold-yes bit of an absent hold flag are ignored, log 30. -/
def Obligations.ObstacleAddedAndRemoved : Prop :=
  ∀ (tag : Byte) (s : State), Accepting s →
    (∀ (w : ObstacleWire) (mask : SideMask) (o e : Obstacle),
      SideMask.ofCode w.mask.toNat = some mask → o = obstacleOfWire w mask →
      1 ≤ o.id → 1 ≤ o.length → o.length ≤ 5000 → o.cap ≤ 3500 → 1 ≤ o.q → o.q ≤ 50 →
      (∀ v, o.tolerance = some v → v ≤ 200) → o.start + o.length ≤ maxStation →
      (∀ h ∈ s.obstacles, h.id ≠ o.id) → s.obstacles.length < 24 →
      s.travel.station ≤ o.start + o.length - 1 + 5000 →
      (e = if o.start ≤ s.travel.station ∧ s.travel.station < o.start + o.length then
            { o with state := .inside, passage := .opened }
          else if s.travel.dir = .forward ∧ s.travel.station < o.start ∨
              s.travel.dir = .reverse ∧ o.start + o.length ≤ s.travel.station then o
          else if s.travel.station + 5000 < o.start then { o with state := .passed, crossed := true }
          else { o with state := .depart, crossed := true }) →
      ∃ t, exec (.addObstacle tag w) s = .next t ∧
        t = { s with
          obstacles := t.obstacles,
          link := s.link.answered (replyTo tag (.addObstacle w)
            (answer .done [u8 e.state.code, u8 (s.obstacles.length + 1)])) } ∧
        t.obstacles.Perm (e :: s.obstacles)) ∧
    (∀ (w : ObstacleWire) (fields : List (Nat × Bool)) (a : Answer) (tail : Nat), tail = w.start.toNat + w.length.toNat →
      fields =
        [(0, decide (1 ≤ w.id.toNat)), (4, decide (1 ≤ w.length.toNat ∧ w.length.toNat ≤ 5000)),
         (6, decide (w.cap.toNat ≤ 3500)), (8, decide (1 ≤ w.q.toNat ∧ w.q.toNat ≤ 50)),
         (9, decide (1 ≤ w.mask.toNat ∧ w.mask.toNat ≤ 3)),
         (10, decide (w.flags.getLsbD 0 = true → w.tolerance.toNat ≤ 200))] →
      ((∃ off, FirstBad fields off ∧ a = refuseField off) ∨
        (∀ q ∈ fields, q.2 = true) ∧
          (16777215 < tail ∧ a = refuse .badField .length ∨
            tail ≤ 16777215 ∧ (∃ h ∈ s.obstacles, h.id = w.id.toNat) ∧ a = refuseValue .duplicate w.id.toNat ∨
            tail ≤ 16777215 ∧ (∀ h ∈ s.obstacles, h.id ≠ w.id.toNat) ∧ 24 ≤ s.obstacles.length ∧
              a = refuseValue .noRoom s.obstacles.length ∨
            tail ≤ 16777215 ∧ (∀ h ∈ s.obstacles, h.id ≠ w.id.toNat) ∧ s.obstacles.length < 24 ∧
              tail - 1 + 5000 < s.travel.station ∧ a = refuseValue .past s.travel.station)) →
      exec (.addObstacle tag w) s =
        .next { s with link := s.link.answered (replyTo tag (.addObstacle w) a) }) ∧
    (∀ id : Byte, (∀ h ∈ s.obstacles, h.id ≠ id.toNat) →
      exec (.removeObstacle tag id) s =
        .next { s with
          link := s.link.answered (replyTo tag (.removeObstacle id) (refuse .notFound .noDetail)) }) ∧
    (∀ (id : Byte) (o : Obstacle), s.obstacles.find? (fun o => o.id == id.toNat) = some o →
      (o.state ≠ .inside ∨ ∀ d, o.covers d = true → (legOf s d).mode ≠ .auto) →
      exec (.removeObstacle tag id) s =
        .next { s with
          obstacles := s.obstacles.filter fun p => p.id != id.toNat,
          link := s.link.answered (replyTo tag (.removeObstacle id)
            (answer .done [u8 (s.obstacles.filter fun p => p.id != id.toNat).length])) }) ∧
    (∀ (id : Byte) (o : Obstacle) (d : Side), s.obstacles.find? (fun o => o.id == id.toNat) = some o →
      o.state = .inside → o.covers d = true → (legOf s d).mode = .auto →
      exec (.removeObstacle tag id) s =
        .next { s with link := s.link.answered (replyTo tag (.removeObstacle id) (refuse .notAllowed .inside)) })

/-- Passages and breaches. A control step settles each entry's passage, judges its approach, and hands a breach
mark for each entry inside whose bound a covered side with a reference exceeds. A breach mark taken: one breach a
passage, its flag, its notice with the live station (log 36), and BREACH when the hold flag is yes. -/
def Obligations.BreachMarkTaken : Prop :=
  (∀ (s t : State) (c : Completion), t = controlStep s c →
    (∀ (id : Nat) (d : Side) (m : Int) (b : Nat), .breachMark id d m b ∈ t.handed ↔
      .breachMark id d m b ∈ s.handed ∨
      (t.grade.sides.get d).reference = true ∧ m = (t.grade.sides.get d).depth ∧ (b : Int) < m ∧
        ∃ o ∈ s.obstacles, o.id = id ∧ o.start ≤ c.station ∧ c.station < o.start + o.length ∧
          o.covers d = true ∧ b = o.cap + o.tolerance.getD s.setup.control.tolerance) ∧
    (∃ judged : Obstacle → ObstacleState,
      t.obstacles = s.obstacles.map (fun o => { o.questioned c.station with state := judged o }) ∧
      ∀ o ∈ s.obstacles,
        ((∃ d, o.approaches d c.speed c.station (t.grade.sides.get d).target) → judged o = .approach) ∧
        ((∀ d, ¬o.approaches d c.speed c.station (t.grade.sides.get d).target) →
          judged o =
            if o.state = .approach then (if o.crossed then .depart else .pending) else o.state)) ∧
    (t.notices.latched.obstacleUnsampled = true ↔ s.notices.latched.obstacleUnsampled = true ∨
      ∃ o ∈ s.obstacles, o.passage = .closing ∧ o.watched = true ∧ o.sampled = false ∧
        ¬(o.start ≤ c.station ∧ c.station < o.start + o.length))) ∧
  (∀ (id : Nat) (d : Side) (m : Int) (b : Nat) (s u : State), LineInv s →
    u = { s with handed := s.handed.erase (.breachMark id d m b) } →
    (s.obstacles.find? (fun o => o.id == id) = none → exec (.breachMark id d m b) s = .next u) ∧
    (∀ o, s.obstacles.find? (fun o => o.id == id) = some o →
      (o.breached = true → exec (.breachMark id d m b) s = .next u) ∧
      (o.breached = false →
        exec (.breachMark id d m b) s =
          .next { State.occurred u .obstacleBreach s.travel.station (.obstacleBreach id d m b) with
            obstacles := s.obstacles.map (fun o => if o.id = id then { o with breached := true } else o),
            handed := u.handed ++ if o.hold = some true then [.reasonAdd .breach 0] else [] })))

/-! ## The Grade Computation's reports and trims -/

/-- The marks of the Grade Computation. A control step sets a reference-hold mark with its request, notice and
reason for a side in AUTO that has lost its reference, requests HOLD for one without a target, clears the marks of
references that have returned, and settles the approach marks and RAMP. The left-AUTO report clears the approach
mark and withdraws RAMP with the last of them; the left-HOLD report clears the reference-hold mark and withdraws
REFERENCE with the last of them; the remainder is cleared. That RAMP_LIMITED lists a Q for a side in approach
only is log 24. -/
def Obligations.GradeReportsTaken : Prop :=
  (∀ (s t : State) (c : Completion) (lost : Side → Prop), t = controlStep s c →
    (∀ d, lost d ↔ (legOf s d).mode = .auto ∧ (t.grade.sides.get d).reference = false) →
    (∀ d, (.referenceLostRequest d ∈ t.handed ↔ .referenceLostRequest d ∈ s.handed ∨ lost d) ∧
      (.noTargetRequest d ∈ t.handed ↔ .noTargetRequest d ∈ s.handed ∨
        (legOf s d).mode = .auto ∧ (t.grade.sides.get d).reference = true ∧
          (t.grade.sides.get d).target = none) ∧
      ((t.grade.sides.get d).refHold = true ↔
        lost d ∨ (s.grade.sides.get d).refHold = true ∧ (t.grade.sides.get d).reference = false)) ∧
    (t.notices.latched.referenceLost = true ↔
      s.notices.latched.referenceLost = true ∨ ∃ d, lost d) ∧
    ((∀ d, (s.grade.sides.get d).refHold = false) → (∃ d, lost d) → .reasonAdd .reference 0 ∈ t.handed) ∧
    ((∃ d, (s.grade.sides.get d).refHold = true) → (∀ d, (t.grade.sides.get d).refHold = false) →
      .reasonWithdraw .reference ∈ t.handed) ∧
    (∀ d, lost d → ¬lost d.other → s.link.tx ≠ .idle → s.setup.levels.referenceLost < 3 →
      ∃ n, t.notices.pending.referenceLost = some n ∧ n.station = c.station ∧
        n.detail = .referenceLost d
          (if d ≠ s.setup.geometry.refSide ∧ s.setup.geometry.farMode = .slope then
            if (t.grade.sides.get s.setup.geometry.refSide).reference = false then .noReferenceSide else .noSlope
          else if s.setup.geometry.refMode = .slope ∧ d = s.setup.geometry.refSide then .noReferenceSide
          else .noChannel))) ∧
  (∀ (s t : State) (c : Completion) (near : Side → Obstacle → Prop) (q : Sides (Option Nat)) (cap : Side → Nat),
    t = controlStep s c →
    (∀ d o, near d o ↔ o ∈ s.obstacles ∧ (legOf s d).mode = .auto ∧ (t.grade.sides.get d).reference = true ∧
      o.approaches d c.speed c.station (t.grade.sides.get d).target) →
    (∀ d, q.get d = none ↔ ∀ o, ¬near d o) →
    (∀ d n, q.get d = some n → (∃ o, near d o ∧ o.q = n) ∧ ∀ o, near d o → o.q ≤ n) →
    (∀ d n, q.get d = some n → cap d = max 1 ((s.setup.legs.get d).rate / n)) →
    (∀ d, (t.grade.sides.get d).approach = (q.get d).isSome) ∧
    (∀ least, (∃ d, (q.get d).isSome ∧ cap d = least) → (∀ d, (q.get d).isSome → least ≤ cap d) →
      t.grade.ramp = some least ∧ .reasonAdd .ramp least ∈ t.handed ∧
      (s.grade.ramp = none → t.notices.latched.rampLimited = true ∧
        (s.link.tx ≠ .idle → s.setup.levels.rampLimited < 3 →
          ∃ n, t.notices.pending.rampLimited = some n ∧ n.station = c.station ∧
            n.detail = .rampLimited q least)) ∧
      (s.grade.ramp ≠ none → t.notices.latched.rampLimited = s.notices.latched.rampLimited)) ∧
    (q.left = none → q.right = none → t.grade.ramp = none ∧
      t.notices.latched.rampLimited = s.notices.latched.rampLimited ∧
      (s.grade.ramp ≠ none → .reasonWithdraw .ramp ∈ t.handed))) ∧
  ∀ (s : State) (d : Side) (g : GradeSide), g = s.grade.sides.get d →
    (exec (.leftAutoReport d) s =
      .next { s with
        grade := { s.grade with
          sides := s.grade.sides.set d { g with approach := false },
          ramp := if (s.grade.sides.get d.other).approach then s.grade.ramp else none },
        handed := s.handed.erase (.leftAutoReport d) ++
          if (s.grade.sides.get d.other).approach = false ∧ s.grade.ramp.isSome then [.reasonWithdraw .ramp]
          else [] }) ∧
    (exec (.leftHoldReport d) s =
      .next { s with
        grade := { s.grade with sides := s.grade.sides.set d { g with refHold := false } },
        handed := s.handed.erase (.leftHoldReport d) ++
          if g.refHold = true ∧ (s.grade.sides.get d.other).refHold = false then [.reasonWithdraw .reference]
          else [] }) ∧
    (exec .clearRemainder s =
      .next { s with
        grade := { s.grade with remainder := 0 }, handed := s.handed.erase .clearRemainder })

/-- Set Trim: a present trim is clamped to -300..+300 and held, an absent one is kept. That bits 2 to 7 of the
presence byte are ignored is the model's choice, log 30. -/
def Obligations.SetTrimHoldsTrims : Prop :=
  ∀ (tag presence : Byte) (l r : BitVec 16) (s : State) (a b : Int), Accepting s →
    a = (if presence.getLsbD 0 then max (-300) (min 300 l.toInt) else s.grade.sides.left.trim) →
    b = (if presence.getLsbD 1 then max (-300) (min 300 r.toInt) else s.grade.sides.right.trim) →
    exec (.setTrim tag presence l r) s =
      .next { s with
        grade := { s.grade with
          sides := ⟨{ s.grade.sides.left with trim := a }, { s.grade.sides.right with trim := b }⟩ },
        link := s.link.answered (replyTo tag (.setTrim presence l r)
          (answer
            (if presence.getLsbD 0 = true ∧ a ≠ l.toInt ∨ presence.getLsbD 1 = true ∧ b ≠ r.toInt then .clamped
            else .done)
            [signed2 a, signed2 b])) }

/-! ## The legs -/

/-- A leg command in AUTO: slew guard, limit cut, coil currents; in any other mode it is discarded. -/
def Obligations.LegCommandTaken : Prop :=
  ∀ (s : State) (d : Side) (u v w : Int) (l : Leg), l = legOf s d →
    v = max (l.output - s.setup.control.slew) (min (l.output + s.setup.control.slew) u) →
    w = (if s.legs.supplyLow = true ∨ v < 0 ∧ l.upper = true ∨ 0 < v ∧ l.lower = true then 0 else v) →
    (l.mode = .auto →
      exec (.legCommand d u) s =
        .next { s with
          handed := s.handed.erase (.legCommand d u),
          legs := { s.legs with legs := s.legs.legs.set d (l.driven (s.setup.legs.get d) w) } }) ∧
    (l.mode ≠ .auto →
      exec (.legCommand d u) s = .next { s with handed := s.handed.erase (.legCommand d u) })

/-- The requests that send a leg in AUTO to HOLD, with the reports its departure hands; on a leg in another
mode the reference-lost request hands a left-HOLD report and the others do nothing. -/
def Obligations.HoldRequestsTaken : Prop :=
  ∀ (s : State) (d : Side),
    ((legOf s d).mode = .auto →
      exec (.referenceLostRequest d) s =
        .next { s with
          legs := { s.legs with legs := s.legs.legs.set d ((legOf s d).restedIn .hold) },
          handed := s.handed.erase (.referenceLostRequest d) ++ leftAutoReports s d } ∧
      exec (.noTargetRequest d) s =
        .next { s with
          legs := { s.legs with legs := s.legs.legs.set d ((legOf s d).restedIn .hold) },
          handed := s.handed.erase (.noTargetRequest d) ++ leftAutoReports s d } ∧
      ((legOf s d.other).mode ≠ .auto →
        exec .targetLost s =
          .next { s with
            legs := { s.legs with legs := s.legs.legs.set d ((legOf s d).restedIn .hold) },
            handed := s.handed.erase .targetLost ++ leftAutoReports s d })) ∧
    ((legOf s d).mode ≠ .auto →
      exec (.referenceLostRequest d) s =
        .next { s with handed := s.handed.erase (.referenceLostRequest d) ++ [.leftHoldReport d] } ∧
      exec (.noTargetRequest d) s = .next { s with handed := s.handed.erase (.noTargetRequest d) }) ∧
    (NoAuto s → exec .targetLost s = .next { s with handed := s.handed.erase .targetLost }) ∧
    ((legOf s .left).mode = .auto → (legOf s .right).mode = .auto →
      exec .targetLost s =
        .next { s with
          legs := { s.legs with
            legs := ⟨s.legs.legs.left.restedIn .hold, s.legs.legs.right.restedIn .hold⟩ },
          handed := s.handed.erase .targetLost ++
            [.leftAutoReport .left, .leftAutoReport .right, .noLegAutoReport] })

/-- Set Leg Mode for OFF, MANUAL or HOLD: the leg rests in the mode at output 0, with the reports of its departure
from AUTO or HOLD. A leg or a mode outside its values is refused LEG or MODE; with both bad the leg is named, log
41. -/
def Obligations.SetLegModeRests : Prop :=
  ∀ (tag leg mode : Byte) (s : State), Accepting s →
  (∀ a : Answer,
    (1 < leg.toNat ∧ a = refuse .badField .leg ∨
      leg.toNat ≤ 1 ∧ 3 < mode.toNat ∧ a = refuse .badField .mode) →
    exec (.setLegMode tag leg mode) s =
      .next { s with link := s.link.answered (replyTo tag (.setLegMode leg mode) a) }) ∧
  ∀ (d : Side) (m : LegMode),
    sideOfCode leg.toNat = some d → LegMode.ofCode mode.toNat = some m → m ≠ .auto →
    exec (.setLegMode tag leg mode) s =
      .next { s with
        legs := { s.legs with legs := s.legs.legs.set d ((legOf s d).restedIn m) },
        handed := s.handed ++ leftAutoReports s d ++
          (if (legOf s d).mode = .hold ∧ m ≠ .hold then [.leftHoldReport d] else []),
        link := s.link.answered (replyTo tag (.setLegMode leg mode)
          (answer .done [u8 (sideCode d), u8 m.code, signed2 0])) }

/-- Set Leg Mode for AUTO: granted at output 0 when every check of R119 holds, answered alone on a leg already
in AUTO, and otherwise refused with the first check that fails. -/
def Obligations.SetLegModeAutoChecks : Prop :=
  ∀ (tag leg : Byte) (s : State), Accepting s →
    (1 < leg.toNat →
      exec (.setLegModeAuto tag leg) s =
        .next { s with link := s.link.answered (replyTo tag (.setLegMode leg 2) (refuse .badField .leg)) }) ∧
    ∀ d : Side, sideOfCode leg.toNat = some d →
    ((legOf s d).mode = .auto →
      exec (.setLegModeAuto tag leg) s =
        .next { s with link := s.link.answered (replyTo tag (.setLegMode leg 2)
          (answer .done [u8 (sideCode d), u8 2, signed2 (legOf s d).output])) }) ∧
    ((legOf s d).mode ≠ .auto →
      ∃ startup ready target reference : Bool,
        startup = (s.advance.holds.get .startup).isNone ∧
        ready = decide (s.scanner.state = .settling ∨ s.scanner.state = .armed ∨ s.scanner.state = .scanning) ∧
        (target = true ↔ ∃ g rest, s.program.segments = g :: rest ∧ g.start ≤ s.travel.station) ∧
        (s.grade.base.isSome = true → reference = (s.grade.sides.get d).reference) ∧
        (s.grade.base = none → (reference = true ↔ LiveReference s d)) ∧
        (startup = true → s.legs.supplyLow = false → s.legs.stopSense = false → ready = true →
          target = true → reference = true →
          exec (.setLegModeAuto tag leg) s =
            .next { s with
              legs := { s.legs with legs := s.legs.legs.set d ((legOf s d).restedIn .auto) },
              handed := s.handed ++ (if (legOf s d).mode = .hold then [.leftHoldReport d] else []),
              link := s.link.answered (replyTo tag (.setLegMode leg 2)
                (answer .done [u8 (sideCode d), u8 2, signed2 0])) }) ∧
        (∀ why : DetailCode,
          (startup = false ∧ why = .startup ∨
            startup = true ∧ s.legs.supplyLow = true ∧ why = .supply ∨
            startup = true ∧ s.legs.supplyLow = false ∧ s.legs.stopSense = true ∧ why = .stopSense ∨
            startup = true ∧ s.legs.supplyLow = false ∧ s.legs.stopSense = false ∧ ready = false ∧
              why = .scanner ∨
            startup = true ∧ s.legs.supplyLow = false ∧ s.legs.stopSense = false ∧ ready = true ∧
              target = false ∧ why = .target ∨
            startup = true ∧ s.legs.supplyLow = false ∧ s.legs.stopSense = false ∧ ready = true ∧
              target = true ∧ reference = false ∧ why = .reference) →
          exec (.setLegModeAuto tag leg) s =
            .next { s with link := s.link.answered (replyTo tag (.setLegMode leg 2) (refuse .notAllowed why)) }))

/-- A jog in MANUAL drives its coil with the permille clamped to 1000, and its timer's end takes the output back to
0; a jog that fails a check of R125 is refused with the first that fails, the leg before the direction (log 41).
That the reply carries the mode, as R131 has it and R125 does not, is the model's choice, log 42. -/
def Obligations.JogRunsAndEnds : Prop :=
  (∀ (tag leg direction : Byte) (permille duration : BitVec 16) (s : State) (d : Side) (dir : JogDirection)
      (n : Nat) (u : Int),
    Accepting s → sideOfCode leg.toNat = some d → JogDirection.ofCode direction.toNat = some dir →
    10 ≤ duration.toNat → duration.toNat ≤ 2000 → (legOf s d).mode = .manual →
    (s.advance.holds.get .startup) = none → s.legs.supplyLow = false →
    (dir = .raise → (legOf s d).upper = false) → (dir = .lower → (legOf s d).lower = false) →
    n = min 1000 permille.toNat → u = (if dir = .raise then -(n : Int) else n) →
    exec (.jogLeg tag leg direction permille duration) s =
      .next { s with
        legs := { s.legs with
          legs := s.legs.legs.set d
            ({ legOf s d with jog := some { dir := dir, permille := n, duration := duration.toNat } }.driven
              (s.setup.legs.get d) u) },
        link := s.link.answered (replyTo tag (.jogLeg leg direction permille duration)
          (answer (if permille.toNat ≤ 1000 then .done else .clamped)
            [u8 (sideCode d), u8 1, signed2 u, field2 (drivenCurrent (s.setup.legs.get d) u)])) }) ∧
  (∀ (tag leg direction : Byte) (permille duration : BitVec 16) (s : State) (a : Answer), Accepting s →
    (1 < leg.toNat ∧ a = refuse .badField .leg ∨
      leg.toNat ≤ 1 ∧ 1 < direction.toNat ∧ a = refuse .badField .direction ∨
      ∃ d dir, sideOfCode leg.toNat = some d ∧ JogDirection.ofCode direction.toNat = some dir ∧
        ((duration.toNat < 10 ∨ 2000 < duration.toNat) ∧ a = refuse .badField .duration ∨
          10 ≤ duration.toNat ∧ duration.toNat ≤ 2000 ∧
            ((legOf s d).mode ≠ .manual ∧ a = refuse .notAllowed .mode ∨
              (legOf s d).mode = .manual ∧ s.advance.holds.get .startup ≠ none ∧
                a = refuse .notAllowed .startup ∨
              (legOf s d).mode = .manual ∧ s.advance.holds.get .startup = none ∧ s.legs.supplyLow = true ∧
                a = refuse .notAllowed .supply ∨
              (legOf s d).mode = .manual ∧ s.advance.holds.get .startup = none ∧ s.legs.supplyLow = false ∧
                (dir = .raise ∧ (legOf s d).upper = true ∨ dir = .lower ∧ (legOf s d).lower = true) ∧
                a = refuse .notAllowed .limit))) →
    exec (.jogLeg tag leg direction permille duration) s =
      .next { s with
        link := s.link.answered (replyTo tag (.jogLeg leg direction permille duration) a) }) ∧
  (∀ (s : State) (d : Side), (legOf s d).jog.isSome →
    exec (.jogTimerExpiry d) s =
      .next { s with
        legs := { s.legs with legs := s.legs.legs.set d ((legOf s d).restedIn (legOf s d).mode) } })

/-! ## The conveyor and its trucks -/

/-- A cut report: its loose volume enters H and the total cut, the cut-rate percent is set, HOUSING is checked against
the limit and half of it, and the belt follows; everything else is as it was. Stated where the sums fit (log 8), and
HOUSING_HIGH where H fits its field (log 9). -/
def Obligations.CutReportTaken : Prop :=
  ∀ (s : State) (r : CutReport) (p : ConveyorSetup) (h : Nat), p = s.setup.conveyor →
    h = s.conveyor.housing + r.loose → h < 2 ^ 63 → s.conveyor.totalCut + r.loose < 2 ^ 63 → 0 < p.capacity →
    ∃ t, exec (.cutReport r) s = .next t ∧
      t = { s with
        conveyor := { s.conveyor with
          housing := h, totalCut := s.conveyor.totalCut + r.loose,
          cutRate := min 100 ((r.rate * 100 + p.capacity * 1000000 - 1) / (p.capacity * 1000000)),
          housingHeld := housingHeldAfter s.conveyor.housingHeld p.housingLimit h,
          command := t.conveyor.command, coil := t.conveyor.coil, belt := t.conveyor.belt },
        notices := t.notices, link := t.link,
        handed := s.handed.erase (.cutReport r) ++ housingHands s.conveyor.housingHeld p.housingLimit h,
        freeCount := s.freeCount + 2 } ∧
      BeltFollows p t.conveyor ∧ (t.conveyor.belt = .stalled ↔ s.conveyor.belt = .stalled) ∧
      (p.housingLimit * 1000000 < h → s.conveyor.housingHeld = false → t.notices.latched.housingHigh = true) ∧
      (h < 1000000 * 2 ^ 32 →
        Told s t s.travel.station (housingTold s.conveyor.housingHeld p.housingLimit h))

/-- A belt pulse is counted, the lamp toggles while it flashes, and the horn is silenced at its timer's end. -/
def Obligations.ConveyorPulsesAndTimers : Prop :=
  ∀ s : State,
    exec .beltPulse s =
      .next { s with conveyor := { s.conveyor with pulseCount := s.conveyor.pulseCount + 1 } } ∧
    (s.conveyor.flashTimer = true →
      exec .flashTimerExpiry s =
        .next { s with conveyor := { s.conveyor with lampLit := !s.conveyor.lampLit } }) ∧
    exec .hornTimerExpiry s = .next { s with conveyor := { s.conveyor with hornTimer := false } }

/-- A belt interval moves the carry out of H into the truck and the total delivered, or into the unattributed
discharge: no volume is made or lost. The truck credited is checked against its target and its top-off point;
HOUSING is checked against the H that is left; a belt that stays slow under its command for twenty intervals is
STALLED; the belt follows last. Stated where the sums fit the range (log 8), and HOUSING_HIGH where H fits its field
(log 9). -/
def Obligations.BeltIntervalConservesVolume : Prop :=
  ∀ (s : State) (m carry limit : Nat), limit = s.setup.conveyor.housingLimit →
    m = min 100 (roundDivNat (s.conveyor.pulseCount * 1000) s.setup.conveyor.pickup) →
    carry = min s.conveyor.housing (s.setup.conveyor.capacity * m * 1000) →
    s.conveyor.totalDelivered + carry < 2 ^ 63 → s.conveyor.unattributed + carry < 2 ^ 63 →
    ∃ t, exec .beltInterval s = .next t ∧ t.conveyor.measured = m ∧ t.conveyor.pulseCount = 0 ∧
      t.conveyor.housing = s.conveyor.housing - carry ∧
      t.conveyor.housing + t.conveyor.totalDelivered + t.conveyor.unattributed =
        s.conveyor.housing + s.conveyor.totalDelivered + s.conveyor.unattributed ∧
      (s.conveyor.truck = .loading ∨ s.conveyor.truck = .topOff →
        t.conveyor.totalDelivered = s.conveyor.totalDelivered + carry ∧
        (t.conveyor.current.map fun k => (k.number, k.arrival, k.delivered)) =
          s.conveyor.current.map fun k => (k.number, k.arrival, k.delivered + carry)) ∧
      (s.conveyor.truck ≠ .loading → s.conveyor.truck ≠ .topOff →
        t.conveyor.unattributed = s.conveyor.unattributed + carry ∧
        t.conveyor.current = s.conveyor.current ∧ t.conveyor.truck = s.conveyor.truck) ∧
      (∀ k, s.conveyor.truck = .loading ∨ s.conveyor.truck = .topOff → s.conveyor.current = some k →
        TruckChecked t.conveyor s.conveyor.truck k s.setup.truck.target s.setup.truck.margin
          s.setup.conveyor.topOff (k.delivered + carry)) ∧
      (t.conveyor.truck = s.conveyor.truck → s.conveyor.belt ≠ .stalled →
        (20 ≤ s.conveyor.command → m * 4 < s.conveyor.command →
          (19 ≤ s.conveyor.stallRun → t.conveyor.belt = .stalled ∧ t.conveyor.stallRun = 0 ∧
            t.conveyor.command = 0 ∧ t.conveyor.coil = 0 ∧ t.notices.latched.beltStall = true) ∧
          (s.conveyor.stallRun < 19 → t.conveyor.belt ≠ .stalled ∧
            t.conveyor.stallRun = s.conveyor.stallRun + 1 ∧
            t.notices.latched.beltStall = s.notices.latched.beltStall)) ∧
        (s.conveyor.command < 20 ∨ s.conveyor.command ≤ m * 4 → t.conveyor.belt ≠ .stalled ∧
          t.conveyor.stallRun = 0 ∧ t.notices.latched.beltStall = s.notices.latched.beltStall)) ∧
      (s.conveyor.belt = .stalled → t.conveyor.belt = .stalled ∧ t.conveyor.command = 0) ∧
      BeltFollows s.setup.conveyor t.conveyor ∧
      t.conveyor.housingHeld = housingHeldAfter s.conveyor.housingHeld limit (s.conveyor.housing - carry) ∧
      t.handed = s.handed ++ housingHands s.conveyor.housingHeld limit (s.conveyor.housing - carry) ∧
      (limit * 1000000 < s.conveyor.housing - carry → s.conveyor.housingHeld = false →
        t.notices.latched.housingHigh = true) ∧
      (t.conveyor.truck = s.conveyor.truck → s.conveyor.belt ≠ .stalled →
        s.conveyor.housing - carry < 1000000 * 2 ^ 32 →
        Told s t s.travel.station fun c =>
          if c = .beltStall ∧ t.conveyor.belt = .stalled then some (.beltStall s.conveyor.command m)
          else housingTold s.conveyor.housingHeld limit (s.conveyor.housing - carry) c) ∧
      t.conveyor.totalCut = s.conveyor.totalCut ∧ t.conveyor.log = s.conveyor.log ∧
      t.conveyor.mode = s.conveyor.mode ∧ t.travel = s.travel ∧ t.scanner = s.scanner ∧
      t.program = s.program ∧ t.obstacles = s.obstacles ∧ t.grade = s.grade ∧ t.legs = s.legs ∧
      t.advance = s.advance ∧ t.inputs = s.inputs ∧ t.supply = s.supply ∧ t.store = s.store

/-- The truck settle timer's end makes the current truck with the next number, in LOADING with a steady lamp, and
makes the truck checks; a margin at or above the target puts it in TOP_OFF at once. -/
def Obligations.TruckSettles : Prop :=
  ∀ (s : State) (n : Nat) (k : Truck), s.conveyor.settleTimer = some n →
    k = { number := s.conveyor.nextNumber, arrival := s.travel.station, delivered := 0, endReason := none } →
    ∃ t, exec .truckSettleTimerExpiry s = .next t ∧ t = { s with conveyor := t.conveyor } ∧
      t.conveyor.settleTimer = none ∧
      t.conveyor.nextNumber = (if s.conveyor.nextNumber = 65535 then 1 else s.conveyor.nextNumber + 1) ∧
      TruckChecked t.conveyor .loading k s.setup.truck.target s.setup.truck.margin s.setup.conveyor.topOff 0 ∧
      (s.setup.truck.margin < s.setup.truck.target → t.conveyor.truck = .loading ∧
        t.conveyor.current = some k ∧ t.conveyor.lamp = .steady) ∧ t.conveyor.housing = s.conveyor.housing ∧
      t.conveyor.log = s.conveyor.log ∧ t.conveyor.mode = s.conveyor.mode ∧
      BeltFollows s.setup.conveyor t.conveyor

/-- Set Belt Mode: accepted, it sets the mode and the manual percent and clears a stall, and the belt follows; a bad
mode, and, but for STOP, a STARTUP reason or an open stop sense loop, refuse it in that order. -/
def Obligations.SetBeltModeAccepted : Prop :=
  ∀ (tag mode : Byte) (percent : BitVec 16) (s : State), Accepting s →
    (∀ m : BeltMode, BeltMode.ofCode mode.toNat = some m →
      m = .stop ∨ s.advance.holds.get .startup = none ∧ s.conveyor.stopSense = false →
      ∃ t, exec (.setBeltMode tag mode percent) s = .next t ∧
        t = { s with
          conveyor := { s.conveyor with
            mode := m, stallRun := 0,
            manualPercent := if m = .manual then min 100 percent.toNat else s.conveyor.manualPercent,
            command := t.conveyor.command, coil := t.conveyor.coil, belt := t.conveyor.belt },
          link := s.link.answered (replyTo tag (.setBeltMode mode percent)
            (answer (if m = .manual ∧ 100 < percent.toNat then .clamped else .done)
              [u8 m.code, u8 t.conveyor.belt.code, u8 t.conveyor.command])) } ∧
        BeltFollows s.setup.conveyor t.conveyor ∧ t.conveyor.belt ≠ .stalled) ∧
    (∀ a : Answer,
      (2 < mode.toNat ∧ a = refuse .badField .mode ∨
        mode.toNat < 2 ∧ s.advance.holds.get .startup ≠ none ∧ a = refuse .notAllowed .startup ∨
        mode.toNat < 2 ∧ s.advance.holds.get .startup = none ∧ s.conveyor.stopSense = true ∧
          a = refuse .notAllowed .stopSense) →
      exec (.setBeltMode tag mode percent) s =
        .next { s with link := s.link.answered (replyTo tag (.setBeltMode mode percent) a) })

/-- Set Truck Target clamps and holds the target and checks the truck under the discharge; Truck Done sends a truck
in LOADING or TOP_OFF away with end reason FORCED, and is refused NO_TRUCK or FULL in the other states. Litres hold
at 65,535 in a reply (log 25), and with no current truck the volume is sent as 0 (log 44). -/
def Obligations.TruckTargetAndDone : Prop :=
  (∀ (tag : Byte) (l : BitVec 16) (s : State) (n : Nat), Accepting s → n = max 2000 (min 30000 l.toNat) →
    ∃ t, exec (.setTruckTarget tag l) s = .next t ∧
      t = { s with
        conveyor := t.conveyor,
        store := { s.store with
          working := { s.store.working with truck := { s.store.working.truck with target := n } } },
        link := s.link.answered (replyTo tag (.setTruckTarget l)
          (answer (if n = l.toNat then .done else .clamped)
            [field2 n, u8 t.conveyor.truck.code, field2 (deliveredLitres t.conveyor.delivered)])) } ∧
      (s.conveyor.truck ≠ .loading → s.conveyor.truck ≠ .topOff → t.conveyor = s.conveyor) ∧
      (∀ k, s.conveyor.truck = .loading ∨ s.conveyor.truck = .topOff → s.conveyor.current = some k →
        TruckChecked t.conveyor s.conveyor.truck k n s.setup.truck.margin s.setup.conveyor.topOff k.delivered) ∧
      (s.conveyor.current = none → s.conveyor.truck ≠ .loading → s.conveyor.truck ≠ .topOff →
        deliveredLitres t.conveyor.delivered = 0)) ∧
  (∀ (tag : Byte) (s : State) (k : Truck), Accepting s →
    s.conveyor.truck = .loading ∨ s.conveyor.truck = .topOff → s.conveyor.current = some k →
    ∃ t, exec (.truckDone tag) s = .next t ∧
      t = { s with
        conveyor := t.conveyor,
        link := s.link.answered (replyTo tag .truckDone
          (answer .done [field2 k.number, field2 (deliveredLitres k.delivered)])) } ∧
      t.conveyor.truck = .full ∧ t.conveyor.current = some { k with endReason := some .forced } ∧
      t.conveyor.hornTimer = true ∧ t.conveyor.lamp = .off ∧ t.conveyor.flashTimer = false ∧
      (s.conveyor.mode = .auto → t.conveyor.command = 0) ∧ t.conveyor.log = s.conveyor.log ∧
      t.conveyor.housing = s.conveyor.housing ∧ BeltFollows s.setup.conveyor t.conveyor) ∧
  (∀ (tag : Byte) (s : State) (why : DetailCode), Accepting s →
    (s.conveyor.truck = .noTruck ∨ s.conveyor.truck = .settling) ∧ why = .noTruck ∨
      s.conveyor.truck = .full ∧ why = .full →
    exec (.truckDone tag) s =
      .next { s with link := s.link.answered (replyTo tag .truckDone (refuse .notAllowed why)) })

/-- Take Truck Record takes the oldest record, and is NOT_FOUND on an empty log; Clear Totals sets the four volumes
to 0, hands clear remainder, withdraws HOUSING, and answers with the values as they stood, where H fits its field
(log 9). -/
def Obligations.RecordTakenAndTotalsCleared : Prop :=
  (∀ (tag : Byte) (s : State) (r : TruckRecord) (rest : List TruckRecord), Accepting s →
    s.conveyor.log = r :: rest →
    exec (.takeTruckRecord tag) s =
      .next { s with
        conveyor := { s.conveyor with log := rest },
        link := s.link.answered (replyTo tag .takeTruckRecord (answer .done
          [field2 r.number, field3 r.arrival, field3 r.departure, field2 r.litres, field3 r.remainder,
           u8 r.endReason.code, flag r.loss, u8 rest.length])) }) ∧
  (∀ (tag : Byte) (s : State), Accepting s → s.conveyor.log = [] →
    exec (.takeTruckRecord tag) s =
      .next { s with
        link := s.link.answered (replyTo tag .takeTruckRecord (refuse .notFound .noDetail)) }) ∧
  (∀ (tag : Byte) (s : State), Accepting s → s.conveyor.housing < 1000000 * 2 ^ 32 →
    ∃ t, exec (.clearTotals tag) s = .next t ∧
      t = { s with
        conveyor := t.conveyor,
        handed := s.handed ++ [.clearRemainder] ++
          (if s.conveyor.housingHeld then [.reasonWithdraw .housing] else []),
        link := s.link.answered (replyTo tag .clearTotals (answer .done
          [field8 (s.conveyor.totalCut / 1000000), field3 (s.conveyor.totalCut % 1000000),
           field8 (s.conveyor.totalDelivered / 1000000), field3 (s.conveyor.totalDelivered % 1000000),
           field8 (s.conveyor.unattributed / 1000000), field3 (s.conveyor.unattributed % 1000000),
           field4 (s.conveyor.housing / 1000000), field3 (s.conveyor.housing % 1000000)])) } ∧
      t.conveyor.totalCut = 0 ∧ t.conveyor.totalDelivered = 0 ∧ t.conveyor.unattributed = 0 ∧
      t.conveyor.housing = 0 ∧ t.conveyor.housingHeld = false ∧
      t.conveyor.truck = s.conveyor.truck ∧ t.conveyor.current = s.conveyor.current ∧
      t.conveyor.log = s.conveyor.log ∧ t.conveyor.mode = s.conveyor.mode ∧
      BeltFollows s.setup.conveyor t.conveyor)

/-! ## The Advance Limit, the inputs and the supply -/

/-- An add makes the reason present with its cap, a withdraw makes it absent, program end ahead withdraws
PROGRAM_END; the cap and the permit are recomputed, and nothing else changes. -/
def Obligations.ReasonsAddedAndWithdrawn : Prop :=
  ∀ (s : State) (r : HoldReason) (cap : Nat),
    (∃ t, exec (.reasonAdd r cap) s = .next t ∧
      t = { s with handed := s.handed.erase (.reasonAdd r cap), advance := t.advance } ∧
      (∀ k, t.advance.holds.get k = if k = r then some cap else s.advance.holds.get k) ∧ CapInv t) ∧
    (∃ t, exec (.reasonWithdraw r) s = .next t ∧
      t = { s with handed := s.handed.erase (.reasonWithdraw r), advance := t.advance } ∧
      (∀ k, t.advance.holds.get k = if k = r then none else s.advance.holds.get k) ∧ CapInv t) ∧
    (∃ t, exec .programEndAhead s = .next t ∧
      t = { s with handed := s.handed.erase .programEndAhead, advance := t.advance } ∧
      (∀ k, t.advance.holds.get k = if k = .programEnd then none else s.advance.holds.get k) ∧ CapInv t)

/-- Release Hold by the order of its checks: a code above 7, a reason that is not latched, one that is absent,
and BREACH while the breach test is true are refused; otherwise the reason leaves the set. The reply's fields are
the form of log 32. -/
def Obligations.ReleaseHoldByItsChecks : Prop :=
  ∀ (tag code : Byte) (s : State), Accepting s →
    (∀ a : Answer,
      (7 < code.toNat ∧ a = refuse .badField .reason ∨
        code.toNat ≤ 7 ∧ code.toNat ≠ 2 ∧ code.toNat ≠ 5 ∧ a = refuse .notAllowed .level ∨
        code.toNat = 2 ∧ s.advance.holds.breach = none ∧ a = refuseValue .notFound 2 ∨
        code.toNat = 5 ∧ s.advance.holds.programEnd = none ∧ a = refuseValue .notFound 5 ∨
        code.toNat = 2 ∧ s.advance.holds.breach ≠ none ∧ BreachHolds s ∧
          a = refuseValue .notClear s.travel.station) →
      exec (.releaseHold tag code) s =
        .next { s with link := s.link.answered (replyTo tag (.releaseHold code) a) }) ∧
    (∀ r : HoldReason,
      (code.toNat = 2 ∧ s.advance.holds.breach ≠ none ∧ ¬BreachHolds s ∧ r = .breach ∨
        code.toNat = 5 ∧ s.advance.holds.programEnd ≠ none ∧ r = .programEnd) →
      ∃ t, exec (.releaseHold tag code) s = .next t ∧
        t = { s with
          advance := t.advance,
          link := s.link.answered (replyTo tag (.releaseHold code) (answer .done
            [field2 t.advance.speedCap, flag t.advance.permit, u8 (presenceBits t.advance.holds),
             field2 (t.advance.holds.ramp.getD 0)])) } ∧
        (∀ k, t.advance.holds.get k = if k = r then none else s.advance.holds.get k) ∧ CapInv t)

/-- A switch sample: each input's level is accepted at the third sample in a row. What a change accepted alone
does: a stop sense loop that opens puts both legs in HOLD and the belt in STOP, and its release clears the flags;
a limit that becomes active cuts the output and ends the jog toward it; a truck arrives, backs out, or leaves with
its record. Several changes at one sample keep the free order of log 7; the receivers of a stop take it in one run,
the model's choice, log 43; litres hold at 65,535, as Table 7.6 notes. -/
def Obligations.SwitchSampleFilters : Prop :=
  ∀ (closed : PerInput Bool) (s : State) (n : SwitchInput → Nat) (active : SwitchInput → Bool),
    (∀ k, active k = if k = .stopSense then !closed.get k else closed.get k) →
    (∀ k, n k = match (s.inputs.get k).accepted with
      | .unknown => if (s.inputs.get k).last = some (active k) then (s.inputs.get k).run + 1 else 1
      | .active => if active k then 0 else (s.inputs.get k).run + 1
      | .inactive => if active k then (s.inputs.get k).run + 1 else 0) →
    ∃ t, exec (.switchSample closed) s = .next t ∧
      (∀ k, t.inputs.get k =
        if 3 ≤ n k then
          { accepted := if active k then .active else .inactive, run := 0, last := some (active k) }
        else { accepted := (s.inputs.get k).accepted, run := n k, last := some (active k) }) ∧
      t.travel = s.travel ∧ t.scanner = s.scanner ∧ t.program = s.program ∧ t.obstacles = s.obstacles ∧
      t.grade = s.grade ∧ t.advance = s.advance ∧ t.supply = s.supply ∧ t.store = s.store ∧
      ((∀ k, n k < 3) → t = { s with inputs := t.inputs }) ∧
      (3 ≤ n .stopSense → active .stopSense = true → (∀ k, k ≠ .stopSense → n k < 3) →
        t.legs.stopSense = true ∧ t.conveyor.stopSense = true ∧ t.conveyor.mode = .stop ∧
        t.conveyor.command = 0 ∧ t.conveyor.coil = 0 ∧ .reasonAdd .stopSense 0 ∈ t.handed ∧
        t.notices.latched.stopSense = true ∧ BeltFollows s.setup.conveyor t.conveyor ∧
        ∀ d, legOf t d = (legOf s d).restedIn .hold) ∧
      (3 ≤ n .stopSense → active .stopSense = false → (∀ k, k ≠ .stopSense → n k < 3) →
        ((s.inputs.get .stopSense).accepted ≠ .active → t = { s with inputs := t.inputs }) ∧
        ((s.inputs.get .stopSense).accepted = .active →
          t = { s with
            inputs := t.inputs, legs := { s.legs with stopSense := false }, conveyor := t.conveyor,
            handed := s.handed ++ [.reasonWithdraw .stopSense] } ∧
          t.conveyor.stopSense = false ∧ t.conveyor.mode = s.conveyor.mode ∧
          t.conveyor.truck = s.conveyor.truck ∧ t.conveyor.housing = s.conveyor.housing ∧
          (s.conveyor.mode = .stop → t.conveyor.command = 0) ∧
          BeltFollows s.setup.conveyor t.conveyor)) ∧
      (∀ (d : Side) (w : LimitSwitch) (k : SwitchInput) (l m reached released : Leg) (cut : Bool),
        k = (match d, w with
          | .left, .upper => .leftUpper
          | .left, .lower => .leftLower
          | .right, .upper => .rightUpper
          | .right, .lower => .rightLower) →
        3 ≤ n k → (∀ j, j ≠ k → n j < 3) → l = legOf s d →
        cut = decide (w = .upper ∧ l.output < 0 ∨ w = .lower ∧ 0 < l.output) →
        m = (if cut then { l with output := 0, raiseCoil := 0, lowerCoil := 0 } else l) →
        reached = (match w with
          | .upper => { m with upper := true, jog := if m.jog.map Jog.dir = some .raise then none else m.jog }
          | .lower => { m with lower := true, jog := if m.jog.map Jog.dir = some .lower then none else m.jog }) →
        released = (match w with
          | .upper => { l with upper := false }
          | .lower => { l with lower := false }) →
        (active k = false →
          t = { s with
            inputs := t.inputs, legs := { s.legs with legs := s.legs.legs.set d released } }) ∧
        (active k = true → LineInv s →
          t = State.occurred
            { s with inputs := t.inputs, legs := { s.legs with legs := s.legs.legs.set d reached } }
            .legLimit s.travel.station (.legLimit d w l.mode cut))) ∧
      (3 ≤ n .presence → (∀ j, j ≠ .presence → n j < 3) →
        (active .presence = true → s.conveyor.truck = .noTruck →
          t = { s with inputs := t.inputs, conveyor := t.conveyor } ∧ t.conveyor.truck = .settling ∧
          t.conveyor.settleTimer = some (s.setup.truck.settle * 1000) ∧ t.conveyor.lamp = .off ∧
          t.conveyor.current = s.conveyor.current ∧ t.conveyor.log = s.conveyor.log ∧
          t.conveyor.housing = s.conveyor.housing ∧ t.conveyor.mode = s.conveyor.mode ∧
          BeltFollows s.setup.conveyor t.conveyor) ∧
        (active .presence = false → s.conveyor.truck = .settling →
          t = { s with inputs := t.inputs, conveyor := t.conveyor } ∧ t.conveyor.truck = .noTruck ∧
          t.conveyor.settleTimer = none ∧ t.conveyor.current = s.conveyor.current ∧
          t.conveyor.nextNumber = s.conveyor.nextNumber ∧ t.conveyor.log = s.conveyor.log ∧
          BeltFollows s.setup.conveyor t.conveyor) ∧
        (active .presence = true ∧ s.conveyor.truck ≠ .noTruck ∨
            active .presence = false ∧ s.conveyor.truck = .noTruck →
          t = { s with inputs := t.inputs }) ∧
        (∀ (k : Truck) (reason : EndReason) (litres : Nat), active .presence = false → LineInv s →
          s.conveyor.current = some k →
          (s.conveyor.truck = .loading ∨ s.conveyor.truck = .topOff) ∧ reason = .early ∨
            s.conveyor.truck = .full ∧ k.endReason = some reason →
          litres = min 65535 (k.delivered / 1000000) →
          t = { State.occurred { s with inputs := t.inputs } .truckComplete s.travel.station
              (.truckComplete k.number reason litres) with conveyor := t.conveyor } ∧
          t.conveyor.truck = .noTruck ∧ t.conveyor.current = none ∧ t.conveyor.lamp = .off ∧
          t.conveyor.flashTimer = false ∧ t.conveyor.hornTimer = s.conveyor.hornTimer ∧
          t.conveyor.nextNumber = s.conveyor.nextNumber ∧ t.conveyor.housing = s.conveyor.housing ∧
          (s.conveyor.mode = .auto → t.conveyor.command = 0) ∧ BeltFollows s.setup.conveyor t.conveyor ∧
          t.conveyor.log = (if 32 ≤ s.conveyor.log.length then s.conveyor.log.drop 1 else s.conveyor.log) ++
            [{ number := k.number, arrival := k.arrival, departure := s.travel.station, litres := litres,
               remainder := if k.delivered / 1000000 ≤ 65535 then k.delivered % 1000000 else 999999,
               endReason := reason, loss := decide (32 ≤ s.conveyor.log.length) }]))

/-- A supply measurement: held in tenths of a volt; below the lower threshold the machine falls to LOW with
its legs resting and its belt stopped; above the upper one it is NORMAL and start-up goes on; between the two
no state changes. Before the load a measurement has no effect, the model's choice, log 27. -/
def Obligations.SupplyMeasurementJudged : Prop :=
  ∀ (mv m : Nat) (s : State), s.store.phase ≠ .load → m = min 400 (mv / 100) →
    (s.setup.limits.pair.lower ≤ m → m ≤ s.setup.limits.pair.upper →
      exec (.supplyMeasurement mv) s = .next { s with supply := { s.supply with last := m } }) ∧
    (m < s.setup.limits.pair.lower → s.supply.state = .low →
      exec (.supplyMeasurement mv) s = .next { s with supply := { s.supply with last := m } }) ∧
    (m < s.setup.limits.pair.lower → s.supply.state ≠ .low →
      ∃ t, exec (.supplyMeasurement mv) s = .next t ∧ t.supply = { state := .low, last := m } ∧
        t.legs.supplyLow = true ∧ t.conveyor.supplyLow = true ∧ t.conveyor.command = 0 ∧
        t.conveyor.mode = s.conveyor.mode ∧ .reasonAdd .supply 0 ∈ t.handed ∧
        t.notices.latched.supplyLow = true ∧ BeltFollows s.setup.conveyor t.conveyor ∧
        (∀ d, (legOf s d).mode = .auto ∨ (legOf s d).mode = .manual →
          legOf t d = (legOf s d).restedIn .hold) ∧
        (∀ d, (legOf s d).mode = .off ∨ (legOf s d).mode = .hold → legOf t d = legOf s d) ∧
        t.travel = s.travel ∧ t.scanner = s.scanner ∧ t.program = s.program ∧ t.grade = s.grade ∧
        t.advance = s.advance ∧ t.store = s.store) ∧
    (s.setup.limits.pair.upper < m → s.setup.limits.pair.lower ≤ s.setup.limits.pair.upper →
      ∃ t, exec (.supplyMeasurement mv) s = .next t ∧ t.supply = { state := .normal, last := m } ∧
        t.store.phase =
          (if s.store.phase = .supplyWait ∧ s.supply.state ≠ .normal then .settle else s.store.phase) ∧
        (s.supply.state = .low → t.legs = { s.legs with supplyLow := false } ∧
          t.conveyor.supplyLow = false ∧ .reasonWithdraw .supply ∈ t.handed ∧
          BeltFollows s.setup.conveyor t.conveyor) ∧
        (s.supply.state ≠ .low → t.legs = s.legs ∧ t.conveyor = s.conveyor ∧ t.handed = s.handed) ∧
        t.notices = s.notices ∧ t.travel = s.travel ∧ t.program = s.program ∧ t.advance = s.advance)

/-! ## The console link -/

/-- The receiver's steps through a frame from HUNT to the second check byte; what discards it; a good frame, counted
and dispatched with an empty slot, held behind a full one; what HELD does with bytes; the silence timer's end. A kind
that is no request kind is answered UNKNOWN, from 80h on with a free reply kind (log 10). -/
def Obligations.ReceiverSteps : Prop :=
  ∀ (b : Byte) (s : State), s.store.phase ≠ .load →
    (s.link.rx = .hunt →
      exec (.byteReceived b false) s =
        .next { s with link := { s.link with rx := if b = 0xA5#8 then .length else .hunt } }) ∧
    (s.link.rx = .length → b.toNat ≤ 240 →
      exec (.byteReceived b false) s = .next { s with link := { s.link with rx := .kind b.toNat } }) ∧
    (s.link.rx = .length → 240 < b.toNat →
      exec (.byteReceived b false) s =
        .next { s with link := { s.link with
          rx := .hunt,
          counters := { s.link.counters with length := (s.link.counters.length + 1) % 65536 } } }) ∧
    (∀ len, s.link.rx = .kind len →
      exec (.byteReceived b false) s = .next { s with link := { s.link with rx := .tag len b } }) ∧
    (∀ len k, s.link.rx = .tag len k →
      exec (.byteReceived b false) s =
        .next { s with link := { s.link with
          rx := if len = 0 then .check k b [] none else .body len k b [] } }) ∧
    (∀ len k tg got, s.link.rx = .body len k tg got →
      exec (.byteReceived b false) s =
        .next { s with link := { s.link with
          rx := if got.length + 1 < len then .body len k tg (got ++ [b])
            else .check k tg (got ++ [b]) none } }) ∧
    (∀ k tg body, s.link.rx = .check k tg body none →
      exec (.byteReceived b false) s = .next { s with link := { s.link with rx := .check k tg body (some b) } }) ∧
    (∀ k tg body low, s.link.rx = .check k tg body (some low) → u16 low b = crc16 (checkedBytes k tg body) →
      (s.link.slot = none →
        Dispatched { s with link := { s.link with rx := .hunt } } k tg body (exec (.byteReceived b false) s)) ∧
      (s.link.slot ≠ none →
        exec (.byteReceived b false) s =
          .next { s with link := { s.link with
            rx := .held k tg body,
            counters := { s.link.counters with good := (s.link.counters.good + 1) % 65536 } } })) ∧
    (∀ k tg body, s.link.rx = .held k tg body →
      exec (.byteReceived b false) s =
        .next { s with link := { s.link with
          counters :=
            if b = 0xA5#8 then { s.link.counters with overrun := (s.link.counters.overrun + 1) % 65536 }
            else s.link.counters } } ∧
      exec (.byteReceived b true) s = .next s ∧ exec .silenceTimerExpiry s = .next s) ∧
    (∀ k tg body low, s.link.rx = .check k tg body (some low) →
      u16 low b ≠ crc16 (checkedBytes k tg body) →
      exec (.byteReceived b false) s =
        .next { s with link := { s.link with
          rx := .hunt,
          counters := { s.link.counters with check := (s.link.counters.check + 1) % 65536 } } }) ∧
    (s.link.rx ≠ .hunt → (∀ k tg body, s.link.rx ≠ .held k tg body) →
      exec (.byteReceived b true) s =
        .next { s with link := { s.link with
          rx := .hunt,
          counters := { s.link.counters with check := (s.link.counters.check + 1) % 65536 } } } ∧
      exec .silenceTimerExpiry s =
        .next { s with link := { s.link with
          rx := .hunt,
          counters := { s.link.counters with silence := (s.link.counters.silence + 1) % 65536 } } }) ∧
    (∀ (tag kind : Byte) (body : List Byte), Listening s → kind.toNat ∉ requestKinds →
      exec (.unknownRequest tag kind body) s =
        .next { s with
          link := s.link.answered { kind := kind, tag := tag, answer := refuse .unknown .noDetail } })

/-- When the line falls IDLE the reply in the slot goes on it, or else the most urgent pending notice: lowest level,
then lowest class number, with the notice sequence for its tag; with neither the line stays IDLE. As the slot's
reply is taken, a request waiting in HELD is dispatched, its frame having been counted as it arrived. -/
def Obligations.TransmitterTakesNext : Prop :=
  ∀ s : State, s.link.tx ≠ .idle →
    (∀ r, s.link.slot = some r → (∀ k tg b, s.link.rx ≠ .held k tg b) →
      exec .transmitterIdle s = .next { s with link := { s.link with tx := .reply r, slot := none } }) ∧
    (∀ r k tag body n, s.store.phase ≠ .load → s.link.slot = some r → s.link.rx = .held k tag body →
      s.link.counters.good = (n + 1) % 65536 →
      Dispatched
        { s with link := { s.link with
          tx := .reply r, slot := none, rx := .hunt, counters := { s.link.counters with good := n } } }
        k tag body (exec .transmitterIdle s)) ∧
    (∀ c n, s.link.slot = none → s.notices.pending.get c = some n → s.setup.levels.get c < 3 →
      (∀ k, k ≠ c → (s.notices.pending.get k).isSome → s.setup.levels.get k < 3 →
        s.setup.levels.get c < s.setup.levels.get k ∨
          s.setup.levels.get c = s.setup.levels.get k ∧ classNumber c < classNumber k) →
      exec .transmitterIdle s =
        .next { s with
          notices := { s.notices with pending := s.notices.pending.set c none },
          link := { s.link with
            tx := .notice s.link.sequence (s.setup.levels.get c) c n,
            sequence := (s.link.sequence + 1) % 256 } }) ∧
    (s.link.slot = none → (∀ c, s.notices.pending.get c = none) →
      exec .transmitterIdle s = .next { s with link := { s.link with tx := .idle } })

/-- A Link Reset, answered DONE, acts in every block: program, obstacles, pending notices and flags, AUTO legs,
PROGRAM_END, notice sequence; the rest is kept. That the lasting conditions are latched after the blocks have
acted is the model's choice, log 20. -/
def Obligations.LinkResetActs : Prop :=
  ∀ (tag : Byte) (s : State), Listening s → s.store.storing = none →
    ∃ t, exec (.linkReset tag) s = .next t ∧
      t.program = { segments := [], base := none, lowWater := false, transfer := none } ∧
      t.obstacles = [] ∧ (∀ c, t.notices.pending.get c = none) ∧
      (∀ c, t.notices.latched.get c =
        match c with
        | .supplyLow => decide (s.supply.state = .low)
        | .stopSense => decide (s.inputs.stopSense.accepted = .active)
        | .housingHigh => s.conveyor.housingHeld
        | .beltStall => decide (s.conveyor.belt = .stalled)
        | .referenceLost => s.grade.sides.left.refHold || s.grade.sides.right.refHold
        | _ => false) ∧
      (∀ d, legOf t d = if (legOf s d).mode = .auto then (legOf s d).restedIn .hold else legOf s d) ∧
      (∀ k, t.advance.holds.get k = if k = .programEnd then none else s.advance.holds.get k) ∧ CapInv t ∧
      t.link = { s.link.answered (replyTo tag .linkReset (answer .done [])) with sequence := 0 } ∧
      t.travel = s.travel ∧ t.scanner = s.scanner ∧ t.grade = s.grade ∧ t.conveyor = s.conveyor ∧
      t.inputs = s.inputs ∧ t.supply = s.supply ∧ t.store = s.store

/-! ## The setup -/

/-- Writes of GEOMETRY, CHANNEL and SCAN by the checks of R181: with no leg in AUTO and the scanner STOPPED a group
that passes is held as clamped, and its owners take it; any other is refused with the first check that fails. The
reply's bytes and the offsets of the fields are the form of log 23, and the unused slots of a list are held and
compared as written, the model's choice, log 34. -/
def Obligations.GuardedGroupsWritten : Prop :=
  ∀ (tag : Byte) (s : State), Accepting s →
    (∀ (a : Answer) (w : GeometryWire) (c : Channel) (cw : ChannelWire) (sw : ScanWire),
      ¬NoAuto s ∧ a = refuse .notAllowed .legAuto ∨
        NoAuto s ∧ s.scanner.state ≠ .stopped ∧ a = refuse .notAllowed .running →
      exec (.writeSetupGeometry tag w) s =
        .next { s with link := s.link.answered (replyTo tag (.writeGeometry w) a) } ∧
      exec (.writeSetupChannel tag c cw) s =
        .next { s with link := s.link.answered (replyTo tag (.writeChannel c cw) a) } ∧
      exec (.writeSetupScan tag sw) s =
        .next { s with link := s.link.answered (replyTo tag (.writeScan sw) a) }) ∧
    (NoAuto s → s.scanner.state = .stopped →
      (∀ (w : GeometryWire) (fields : List (Nat × Bool)),
        fields =
          [(3, decide (w.refSide.toNat ≤ 1)), (4, decide (w.refMode.toNat ≤ 2)),
           (5, decide (w.farMode.toNat ≤ 2)), (6, decide (1 ≤ w.refCount.toNat ∧ w.refCount.toNat ≤ 4))] ++
            slotFields 7 w.refCount.toNat w.refSlots.toList ++
            [(11, decide (1 ≤ w.farCount.toNat ∧ w.farCount.toNat ≤ 4))] ++
            slotFields 12 w.farCount.toNat w.farSlots.toList ++
            [(16, decide (w.slopeChannel.toNat ≤ 7)), (19, decide (w.sense.toNat ≤ 1))] →
        (∀ off, FirstBad fields off →
          exec (.writeSetupGeometry tag w) s =
            .next { s with link := s.link.answered (replyTo tag (.writeGeometry w) (refuseField off)) }) ∧
        (∀ (side : Side) (refMode farMode : SideMode) (slope : Channel) (sense : EncoderSense) (g : Geometry)
            (kinds slopeKind once : Prop), (∀ q ∈ fields, q.2 = true) →
          sideOfCode w.refSide.toNat = some side → SideMode.ofCode w.refMode.toNat = some refMode →
          SideMode.ofCode w.farMode.toNat = some farMode → slope.val = w.slopeChannel.toNat →
          EncoderSense.ofCode w.sense.toNat = some sense →
          g = { width := max 500 (min 4400 w.width.toNat), refSide := side, refMode := refMode, farMode := farMode,
                refGroup := { count := w.refCount.toNat, slots := w.refSlots },
                farGroup := { count := w.farCount.toNat, slots := w.farSlots }, slopeChannel := slope,
                pulses := max 100 (min 20000 w.pulses.toNat), sense := sense } →
          (kinds ↔ ∀ c, c ∈ g.refGroup.channels ∨ c ∈ g.farGroup.channels →
            (s.setup.channels.get c).kind = .distance) →
          (slopeKind ↔ (farMode = .slope → (s.setup.channels.get slope).kind = .slope)) →
          (once ↔ g.refGroup.channels.Nodup ∧ g.farGroup.channels.Nodup) →
          (∀ a : Answer,
            (refMode = .slope ∧ a = refuse .badField .slopeSide ∨
              refMode ≠ .slope ∧ ¬kinds ∧ a = refuse .badField .groupKind ∨
              refMode ≠ .slope ∧ kinds ∧ ¬slopeKind ∧ a = refuse .badField .slopeKind ∨
              refMode ≠ .slope ∧ kinds ∧ slopeKind ∧ ¬once ∧ a = refuse .badField .repeated) →
            exec (.writeSetupGeometry tag w) s =
              .next { s with link := s.link.answered (replyTo tag (.writeGeometry w) a) }) ∧
          (refMode ≠ .slope → kinds → slopeKind → once →
            exec (.writeSetupGeometry tag w) s =
              .next { s with
                store := { s.store with working := { s.store.working with geometry := g } },
                travel := { s.travel with frac := 0, edges := 0, window := List.replicate 10 0, speed := 0 },
                grade := { s.grade with sides :=
                  ⟨{ s.grade.sides.left with
                      lastUsed := if sideMode s.setup.geometry .left = sideMode g .left then
                          s.grade.sides.left.lastUsed
                        else none },
                    { s.grade.sides.right with
                      lastUsed := if sideMode s.setup.geometry .right = sideMode g .right then
                          s.grade.sides.right.lastUsed
                        else none }⟩ },
                link := s.link.answered (replyTo tag (.writeGeometry w)
                  (answer (if g.wire.bytes = w.bytes then .done else .clamped)
                    ((0 :: g.wire.bytes).map fun b => u8 b.toNat))) }))) ∧
      (∀ (c : Channel) (w : ChannelWire),
        (2 < w.kind.toNat →
          exec (.writeSetupChannel tag c w) s =
            .next { s with link := s.link.answered (replyTo tag (.writeChannel c w) (refuseField 1)) }) ∧
        (∀ (kind : ChannelKind) (g : ChannelSetup), ChannelKind.ofCode w.kind.toNat = some kind →
          g = { kind := kind, gain := max (-2048) (min 2047 w.gain.toInt),
                offset := max (-256) (min 255 w.offset.toInt),
                span := max 1 (min (if kind = .slope then 1000 else 2000) w.span.toNat),
                mount := max (-5000) (min 5000 w.mount.toInt), spike := min 400 w.spike.toNat } →
          (kind = .noHead → c ∈ s.setup.scan.list →
            exec (.writeSetupChannel tag c w) s =
              .next { s with
                link := s.link.answered (replyTo tag (.writeChannel c w) (refuse .badField .noneListed)) }) ∧
          ((kind = .noHead → c ∉ s.setup.scan.list) →
            exec (.writeSetupChannel tag c w) s =
              .next { s with
                store := { s.store with
                  working := { s.store.working with channels := s.store.working.channels.set c g } },
                scanner := { s.scanner with
                  records := s.scanner.records.set c
                    { s.scanner.records.get c with state := .stale, outRun := 0, goodRun := 0, spikeRun := 0 } },
                link := s.link.answered (replyTo tag (.writeChannel c w)
                  (answer (if g.wire.bytes = w.bytes then .done else .clamped)
                    ((BitVec.ofNat 8 (c.val + 1) :: g.wire.bytes).map fun b => u8 b.toNat))) }))) ∧
      (∀ (w : ScanWire) (fields : List (Nat × Bool)),
        fields =
          [(1, decide (w.mode.toNat ≤ 1)), (2, decide (w.count.toNat ≤ 8))] ++
            slotFields 3 w.count.toNat w.slots.toList →
        (∀ off, FirstBad fields off →
          exec (.writeSetupScan tag w) s =
            .next { s with link := s.link.answered (replyTo tag (.writeScan w) (refuseField off)) }) ∧
        (∀ (mode : TriggerMode) (g : ScanSetup) (heads : Prop), (∀ q ∈ fields, q.2 = true) →
          TriggerMode.ofCode w.mode.toNat = some mode →
          g = { mode := mode, count := w.count.toNat, slots := w.slots,
                prescaler := max 1 (min 16 w.prescaler.toNat), period := max 1 (min 250 w.period.toNat),
                settle := max 20 (min 500 w.settle.toNat), park := min 30 w.park.toNat,
                distance := max 1 (min 50 w.distance.toNat),
                standstillPeriod := max 50 (min 1000 w.standstillPeriod.toNat) } →
          (heads ↔ ∀ c ∈ g.list, (s.setup.channels.get c).kind ≠ .noHead) →
          (∀ a : Answer,
            (¬g.list.Nodup ∧ a = refuse .badField .repeated ∨
              g.list.Nodup ∧ ¬heads ∧ a = refuse .badField .noneListed) →
            exec (.writeSetupScan tag w) s =
              .next { s with link := s.link.answered (replyTo tag (.writeScan w) a) }) ∧
          (g.list.Nodup → heads → ∃ t, exec (.writeSetupScan tag w) s = .next t ∧
            t = { s with
              store := { s.store with working := { s.store.working with scan := g } },
              travel := { s.travel with
                triggerCount := 0, triggerTimer := s.travel.triggerTimer.map fun _ => g.standstillPeriod },
              scanner := { s.scanner with records := t.scanner.records },
              link := s.link.answered (replyTo tag (.writeScan w)
                (answer (if g.wire.bytes = w.bytes then .done else .clamped)
                  ((11 :: g.wire.bytes).map fun b => u8 b.toNat))) } ∧
            ∀ c, t.scanner.records.get c =
              if c ∈ s.setup.scan.list ∧ c ∉ g.list then
                { s.scanner.records.get c with state := .stale, outRun := 0, goodRun := 0, spikeRun := 0 }
              else s.scanner.records.get c))))

/-- Writes of the other groups: the group held with every value clamped to its range, CLAMPED when any was, with its
owners' effects: the low-water condition with PROGRAM_LOW (its remaining count R43's, log 45), the coil currents, the
belt, the truck checks, the speed cap, the notice levels; a group that fails check 4 or 5 of R181 is refused with the
first that fails. The reply's bytes and the offsets of the fields are the form of log 23; which of PROGRAM_LOW and
the reply takes an IDLE line is free, log 6. -/
def Obligations.OtherGroupsWritten : Prop :=
  ∀ (tag : Byte) (s : State), Accepting s →
    (∀ w : ControlWire, 2 < w.lowWater.toNat →
      exec (.writeSetupControl tag w) s =
        .next { s with link := s.link.answered (replyTo tag (.writeControl w) (refuseField 3)) }) ∧
    (∀ (w : ControlWire) (low : LowWater) (holds : Bool) (posted : Option NoticeDetail), ProgramInv s →
      LowWater.ofCode w.lowWater.toNat = some low →
      (holds = true ↔ fewRemain s.program.segments s.travel.station low.segments) →
      posted = (if holds = true ∧ s.program.lowWater = false then
        some (.programLow (remainingAt s.program.segments s.travel.station) low) else none) →
      ∃ t g, exec (.writeSetupControl tag w) s = .next t ∧
        g = { defaultSlope := max (-1000) (min 1000 w.defaultSlope.toInt), lowWater := low,
              lookahead := min 2000 w.lookahead.toNat, tolerance := min 200 w.tolerance.toNat,
              deadband := min 50 w.deadband.toNat, gain := max 1 (min 200 w.gain.toNat),
              slew := max 10 (min 1000 w.slew.toNat), swell := max 100 (min 180 w.swell.toNat) } ∧
        t = { s with
          store := { s.store with working := { s.store.working with control := g } },
          program := { s.program with lowWater := holds },
          notices := t.notices, link := t.link, freeCount := t.freeCount } ∧
        AnsweredTold s t
          (replyTo tag (.writeControl w)
            (answer (if g.wire.bytes = w.bytes then .done else .clamped)
              ((9 :: g.wire.bytes).map fun b => u8 b.toNat)))
          s.travel.station (fun c => if c = .programLow then posted else none)) ∧
    (∀ (w : Sides LegWire) (g : Sides LegSetup),
      (∀ d, g.get d =
        { start := max 100 (min 800 (w.get d).start.toNat), maximum := max 200 (min 1500 (w.get d).maximum.toNat),
          rate := max 1 (min 500 (w.get d).rate.toNat) }) →
      ((∃ d, (g.get d).maximum ≤ (g.get d).start) →
        exec (.writeSetupLeg tag w) s =
          .next { s with
            link := s.link.answered (replyTo tag (.writeLeg w) (refuse .badField .currents)) }) ∧
      ((∀ d, (g.get d).start < (g.get d).maximum) → exec (.writeSetupLeg tag w) s =
        .next { s with
          store := { s.store with working := { s.store.working with legs := g } },
          legs := { s.legs with legs :=
            ⟨s.legs.legs.left.driven g.left s.legs.legs.left.output,
              s.legs.legs.right.driven g.right s.legs.legs.right.output⟩ },
          link := s.link.answered (replyTo tag (.writeLeg w)
            (answer (if legGroupBytes (legsWire g) = legGroupBytes w then .done else .clamped)
              ((10 :: legGroupBytes (legsWire g)).map fun b => u8 b.toNat))) })) ∧
    (∀ (w : ConveyorWire) (g : ConveyorSetup),
      g = { capacity := max 10 (min 200 w.capacity.toNat), beltMin := max 5 (min 50 w.beltMin.toNat),
            purge := max 20 (min 100 w.purge.toNat), topOff := max 10 (min 100 w.topOff.toNat),
            housingLimit := max 100 (min 2000 w.housingLimit.toNat),
            pickup := max 100 (min 20000 w.pickup.toNat), start := max 100 (min 800 w.start.toNat),
            maximum := max 200 (min 1500 w.maximum.toNat) } →
      (g.maximum ≤ g.start →
        exec (.writeSetupConveyor tag w) s =
          .next { s with
            link := s.link.answered (replyTo tag (.writeConveyor w) (refuse .badField .currents)) }) ∧
      (g.start < g.maximum → ∃ t, exec (.writeSetupConveyor tag w) s = .next t ∧
        t = { s with
          store := { s.store with working := { s.store.working with conveyor := g } },
          conveyor := { s.conveyor with
            command := t.conveyor.command, coil := t.conveyor.coil, belt := t.conveyor.belt },
          link := s.link.answered (replyTo tag (.writeConveyor w)
            (answer (if g.wire.bytes = w.bytes then .done else .clamped)
              ((12 :: g.wire.bytes).map fun b => u8 b.toNat))) } ∧
        BeltFollows g t.conveyor ∧ (t.conveyor.belt = .stalled ↔ s.conveyor.belt = .stalled))) ∧
    (∀ (w : TruckWire) (g : TruckSetup),
      g = { target := max 2000 (min 30000 w.target.toNat), margin := min 5000 w.margin.toNat,
            settle := max 1 (min 10 w.settle.toNat) } →
      ∃ t, exec (.writeSetupTruck tag w) s = .next t ∧
        t = { s with
          store := { s.store with working := { s.store.working with truck := g } }, conveyor := t.conveyor,
          link := s.link.answered (replyTo tag (.writeTruck w)
            (answer (if g.wire.bytes = w.bytes then .done else .clamped)
              ((13 :: g.wire.bytes).map fun b => u8 b.toNat))) } ∧
        (s.conveyor.truck ≠ .loading → s.conveyor.truck ≠ .topOff → t.conveyor = s.conveyor) ∧
        (g.target = s.setup.truck.target → g.margin = s.setup.truck.margin → t.conveyor = s.conveyor) ∧
        (∀ k, g.target ≠ s.setup.truck.target ∨ g.margin ≠ s.setup.truck.margin →
          s.conveyor.truck = .loading ∨ s.conveyor.truck = .topOff → s.conveyor.current = some k →
          TruckChecked t.conveyor s.conveyor.truck k g.target g.margin s.setup.conveyor.topOff k.delivered)) ∧
    (∀ (w : LimitsWire) (off : Nat),
      2 < w.filter.toNat ∧ off = 1 ∨ w.filter.toNat ≤ 2 ∧ 2 < w.pair.toNat ∧ off = 4 →
      exec (.writeSetupLimits tag w) s =
        .next { s with link := s.link.answered (replyTo tag (.writeLimits w) (refuseField off)) }) ∧
    (∀ (w : LimitsWire) (filter : FilterPeriod) (pair : SupplyPair),
      FilterPeriod.ofCode w.filter.toNat = some filter → SupplyPair.ofCode w.pair.toNat = some pair →
      ∃ t g, exec (.writeSetupLimits tag w) s = .next t ∧
        g = { filter := filter, maxSpeed := max 10 (min 999 w.maxSpeed.toNat), pair := pair } ∧
        t = { s with
          store := { s.store with working := { s.store.working with limits := g } },
          advance := { s.advance with speedCap := t.advance.speedCap, permit := t.advance.permit },
          link := s.link.answered (replyTo tag (.writeLimits w)
            (answer (if g.wire.bytes = w.bytes then .done else .clamped)
              ((14 :: g.wire.bytes).map fun b => u8 b.toNat))) } ∧
        CapInv t) ∧
    (∀ w : PerClass Byte, ∃ t, exec (.writeSetupNotice tag w) s = .next t ∧
      t = { s with
        store := { s.store with working := { s.store.working with levels := t.store.working.levels } },
        notices := { s.notices with pending := t.notices.pending },
        link := s.link.answered (replyTo tag (.writeNotice w)
          (answer (if (NoticeClass.all.all fun c => decide ((w.get c).toNat ≤ 3)) = true then .done else .clamped)
            ((15 :: NoticeClass.all.map fun c => BitVec.ofNat 8 (t.store.working.levels.get c)).map
              fun b => u8 b.toNat))) } ∧
      ∀ c, t.store.working.levels.get c = min 3 (w.get c).toNat ∧
        t.notices.pending.get c = if (w.get c).toNat < 3 then s.notices.pending.get c else none) ∧
    (∀ b : Byte, 2 < b.toNat →
      exec (.writeSetupLink tag b) s =
        .next { s with link := s.link.answered (replyTo tag (.writeLink b) (refuseField 1)) }) ∧
    (∀ (b : Byte) (rate : Baud), Baud.ofCode b.toNat = some rate →
      exec (.writeSetupLink tag b) s =
        .next { s with
          store := { s.store with working := { s.store.working with baud := rate } },
          link := s.link.answered (replyTo tag (.writeLink b) (answer .done [u8 16, u8 b.toNat])) })

/-- Store Setup sets the mark and takes the working setup as it stands; at the store timer's end that setup is
the stored copy and the mark and the flag are clear. -/
def Obligations.StoreSetupStores : Prop :=
  ∀ (tag : Byte) (s : State),
    (Accepting s → s.supply.state ≠ .low → ∃ t, exec (.storeSetup tag) s = .next t ∧
      t.store.begun = true ∧ t.store.storing = some s.store.working ∧ t.store.working = s.store.working ∧
      t = { s with
        store := t.store, link := s.link.answered (replyTo tag .storeSetup (answer .done [])) }) ∧
    (Accepting s → s.supply.state = .low →
      exec (.storeSetup tag) s =
        .next { s with link := s.link.answered (replyTo tag .storeSetup (refuse .notAllowed .supply)) }) ∧
    (∀ p, s.store.storing = some p →
      exec .storeTimerExpiry s =
        .next { s with store := { s.store with stored := some p, begun := false, storing := none } })
end

