-- ==== Sys2Proof/Laws/State.lean ====
section
/-! SUPPORT. One lemma per field per update of State, each true by rfl, and the read-after-write lemmas of
the fixed collections. -/

namespace Sys2Proof

@[simp] theorem Sides.get_set_self {α : Type} (p : Sides α) (k : Side) (v : α) :
    (p.set k v).get k = v := by
  cases k <;> rfl

theorem Sides.get_set_ne {α : Type} (p : Sides α) (j k : Side) (v : α) (h : k ≠ j) :
    (p.set k v).get j = p.get j := by
  cases k <;> cases j <;> first | rfl | exact absurd rfl h

@[simp] theorem Octet.get_set_self {α : Type} (p : Octet α) (k : Channel) (v : α) :
    (p.set k v).get k = v := by
  fin_cases k <;> rfl

theorem Octet.get_set_ne {α : Type} (p : Octet α) (j k : Channel) (v : α) (h : k ≠ j) :
    (p.set k v).get j = p.get j := by
  fin_cases k <;> fin_cases j <;> first | rfl | exact absurd rfl h

@[simp] theorem Octet.get_fill {α : Type} (k : Channel) (v : α) : (Octet.fill v).get k = v := by
  fin_cases k <;> rfl

@[simp] theorem PerInput.get_set_self {α : Type} (p : PerInput α) (k : SwitchInput) (v : α) :
    (p.set k v).get k = v := by
  cases k <;> rfl

theorem PerInput.get_set_ne {α : Type} (p : PerInput α) (j k : SwitchInput) (v : α) (h : k ≠ j) :
    (p.set k v).get j = p.get j := by
  cases k <;> cases j <;> first | rfl | exact absurd rfl h

@[simp] theorem PerReason.get_set_self {α : Type} (p : PerReason α) (k : HoldReason) (v : α) :
    (p.set k v).get k = v := by
  cases k <;> rfl

theorem PerReason.get_set_ne {α : Type} (p : PerReason α) (j k : HoldReason) (v : α) (h : k ≠ j) :
    (p.set k v).get j = p.get j := by
  cases k <;> cases j <;> first | rfl | exact absurd rfl h

@[simp] theorem PerReason.get_fill {α : Type} (k : HoldReason) (v : α) : (PerReason.fill v).get k = v := by
  cases k <;> rfl

@[simp] theorem PerClass.get_set_self {α : Type} (p : PerClass α) (k : NoticeClass) (v : α) :
    (p.set k v).get k = v := by
  cases k <;> rfl

theorem PerClass.get_set_ne {α : Type} (p : PerClass α) (j k : NoticeClass) (v : α) (h : k ≠ j) :
    (p.set k v).get j = p.get j := by
  cases k <;> cases j <;> first | rfl | exact absurd rfl h

@[simp] theorem PerClass.get_fill {α : Type} (k : NoticeClass) (v : α) : (PerClass.fill v).get k = v := by
  cases k <;> rfl

end Sys2Proof

namespace Sys2Proof.Machine

variable (s : State)

@[simp] theorem State.setTravel_travel (v : Travel) : (s.setTravel v).travel = v := (rfl)
@[simp] theorem State.setTravel_scanner (v : Travel) : (s.setTravel v).scanner = s.scanner := (rfl)
@[simp] theorem State.setTravel_program (v : Travel) : (s.setTravel v).program = s.program := (rfl)
@[simp] theorem State.setTravel_obstacles (v : Travel) : (s.setTravel v).obstacles = s.obstacles := (rfl)
@[simp] theorem State.setTravel_grade (v : Travel) : (s.setTravel v).grade = s.grade := (rfl)
@[simp] theorem State.setTravel_legs (v : Travel) : (s.setTravel v).legs = s.legs := (rfl)
@[simp] theorem State.setTravel_conveyor (v : Travel) : (s.setTravel v).conveyor = s.conveyor := (rfl)
@[simp] theorem State.setTravel_advance (v : Travel) : (s.setTravel v).advance = s.advance := (rfl)
@[simp] theorem State.setTravel_inputs (v : Travel) : (s.setTravel v).inputs = s.inputs := (rfl)
@[simp] theorem State.setTravel_supply (v : Travel) : (s.setTravel v).supply = s.supply := (rfl)
@[simp] theorem State.setTravel_notices (v : Travel) : (s.setTravel v).notices = s.notices := (rfl)
@[simp] theorem State.setTravel_link (v : Travel) : (s.setTravel v).link = s.link := (rfl)
@[simp] theorem State.setTravel_store (v : Travel) : (s.setTravel v).store = s.store := (rfl)
@[simp] theorem State.setTravel_handed (v : Travel) : (s.setTravel v).handed = s.handed := (rfl)
@[simp] theorem State.setTravel_freeCount (v : Travel) : (s.setTravel v).freeCount = s.freeCount := (rfl)
@[simp] theorem State.setTravel_pending (v : Travel) : (s.setTravel v).pending = s.pending := (rfl)
@[simp] theorem State.setTravel_self : s.setTravel s.travel = s := (rfl)
@[simp] theorem State.setTravel_setTravel (v w : Travel) :
    (s.setTravel v).setTravel w = s.setTravel w := (rfl)

@[simp] theorem State.setScanner_travel (v : Scanner) : (s.setScanner v).travel = s.travel := (rfl)
@[simp] theorem State.setScanner_scanner (v : Scanner) : (s.setScanner v).scanner = v := (rfl)
@[simp] theorem State.setScanner_program (v : Scanner) : (s.setScanner v).program = s.program := (rfl)
@[simp] theorem State.setScanner_obstacles (v : Scanner) : (s.setScanner v).obstacles = s.obstacles := (rfl)
@[simp] theorem State.setScanner_grade (v : Scanner) : (s.setScanner v).grade = s.grade := (rfl)
@[simp] theorem State.setScanner_legs (v : Scanner) : (s.setScanner v).legs = s.legs := (rfl)
@[simp] theorem State.setScanner_conveyor (v : Scanner) : (s.setScanner v).conveyor = s.conveyor := (rfl)
@[simp] theorem State.setScanner_advance (v : Scanner) : (s.setScanner v).advance = s.advance := (rfl)
@[simp] theorem State.setScanner_inputs (v : Scanner) : (s.setScanner v).inputs = s.inputs := (rfl)
@[simp] theorem State.setScanner_supply (v : Scanner) : (s.setScanner v).supply = s.supply := (rfl)
@[simp] theorem State.setScanner_notices (v : Scanner) : (s.setScanner v).notices = s.notices := (rfl)
@[simp] theorem State.setScanner_link (v : Scanner) : (s.setScanner v).link = s.link := (rfl)
@[simp] theorem State.setScanner_store (v : Scanner) : (s.setScanner v).store = s.store := (rfl)
@[simp] theorem State.setScanner_handed (v : Scanner) : (s.setScanner v).handed = s.handed := (rfl)
@[simp] theorem State.setScanner_freeCount (v : Scanner) : (s.setScanner v).freeCount = s.freeCount := (rfl)
@[simp] theorem State.setScanner_pending (v : Scanner) : (s.setScanner v).pending = s.pending := (rfl)
@[simp] theorem State.setScanner_self : s.setScanner s.scanner = s := (rfl)
@[simp] theorem State.setScanner_setScanner (v w : Scanner) :
    (s.setScanner v).setScanner w = s.setScanner w := (rfl)

@[simp] theorem State.setProgram_travel (v : Program) : (s.setProgram v).travel = s.travel := (rfl)
@[simp] theorem State.setProgram_scanner (v : Program) : (s.setProgram v).scanner = s.scanner := (rfl)
@[simp] theorem State.setProgram_program (v : Program) : (s.setProgram v).program = v := (rfl)
@[simp] theorem State.setProgram_obstacles (v : Program) : (s.setProgram v).obstacles = s.obstacles := (rfl)
@[simp] theorem State.setProgram_grade (v : Program) : (s.setProgram v).grade = s.grade := (rfl)
@[simp] theorem State.setProgram_legs (v : Program) : (s.setProgram v).legs = s.legs := (rfl)
@[simp] theorem State.setProgram_conveyor (v : Program) : (s.setProgram v).conveyor = s.conveyor := (rfl)
@[simp] theorem State.setProgram_advance (v : Program) : (s.setProgram v).advance = s.advance := (rfl)
@[simp] theorem State.setProgram_inputs (v : Program) : (s.setProgram v).inputs = s.inputs := (rfl)
@[simp] theorem State.setProgram_supply (v : Program) : (s.setProgram v).supply = s.supply := (rfl)
@[simp] theorem State.setProgram_notices (v : Program) : (s.setProgram v).notices = s.notices := (rfl)
@[simp] theorem State.setProgram_link (v : Program) : (s.setProgram v).link = s.link := (rfl)
@[simp] theorem State.setProgram_store (v : Program) : (s.setProgram v).store = s.store := (rfl)
@[simp] theorem State.setProgram_handed (v : Program) : (s.setProgram v).handed = s.handed := (rfl)
@[simp] theorem State.setProgram_freeCount (v : Program) : (s.setProgram v).freeCount = s.freeCount := (rfl)
@[simp] theorem State.setProgram_pending (v : Program) : (s.setProgram v).pending = s.pending := (rfl)
@[simp] theorem State.setProgram_self : s.setProgram s.program = s := (rfl)
@[simp] theorem State.setProgram_setProgram (v w : Program) :
    (s.setProgram v).setProgram w = s.setProgram w := (rfl)

@[simp] theorem State.setObstacles_travel (v : List Obstacle) : (s.setObstacles v).travel = s.travel := (rfl)
@[simp] theorem State.setObstacles_scanner (v : List Obstacle) : (s.setObstacles v).scanner = s.scanner := (rfl)
@[simp] theorem State.setObstacles_program (v : List Obstacle) : (s.setObstacles v).program = s.program := (rfl)
@[simp] theorem State.setObstacles_obstacles (v : List Obstacle) : (s.setObstacles v).obstacles = v := (rfl)
@[simp] theorem State.setObstacles_grade (v : List Obstacle) : (s.setObstacles v).grade = s.grade := (rfl)
@[simp] theorem State.setObstacles_legs (v : List Obstacle) : (s.setObstacles v).legs = s.legs := (rfl)
@[simp] theorem State.setObstacles_conveyor (v : List Obstacle) : (s.setObstacles v).conveyor = s.conveyor := (rfl)
@[simp] theorem State.setObstacles_advance (v : List Obstacle) : (s.setObstacles v).advance = s.advance := (rfl)
@[simp] theorem State.setObstacles_inputs (v : List Obstacle) : (s.setObstacles v).inputs = s.inputs := (rfl)
@[simp] theorem State.setObstacles_supply (v : List Obstacle) : (s.setObstacles v).supply = s.supply := (rfl)
@[simp] theorem State.setObstacles_notices (v : List Obstacle) : (s.setObstacles v).notices = s.notices := (rfl)
@[simp] theorem State.setObstacles_link (v : List Obstacle) : (s.setObstacles v).link = s.link := (rfl)
@[simp] theorem State.setObstacles_store (v : List Obstacle) : (s.setObstacles v).store = s.store := (rfl)
@[simp] theorem State.setObstacles_handed (v : List Obstacle) : (s.setObstacles v).handed = s.handed := (rfl)
@[simp] theorem State.setObstacles_freeCount (v : List Obstacle) : (s.setObstacles v).freeCount = s.freeCount := (rfl)
@[simp] theorem State.setObstacles_pending (v : List Obstacle) : (s.setObstacles v).pending = s.pending := (rfl)
@[simp] theorem State.setObstacles_self : s.setObstacles s.obstacles = s := (rfl)
@[simp] theorem State.setObstacles_setObstacles (v w : List Obstacle) :
    (s.setObstacles v).setObstacles w = s.setObstacles w := (rfl)

@[simp] theorem State.setGrade_travel (v : Grade) : (s.setGrade v).travel = s.travel := (rfl)
@[simp] theorem State.setGrade_scanner (v : Grade) : (s.setGrade v).scanner = s.scanner := (rfl)
@[simp] theorem State.setGrade_program (v : Grade) : (s.setGrade v).program = s.program := (rfl)
@[simp] theorem State.setGrade_obstacles (v : Grade) : (s.setGrade v).obstacles = s.obstacles := (rfl)
@[simp] theorem State.setGrade_grade (v : Grade) : (s.setGrade v).grade = v := (rfl)
@[simp] theorem State.setGrade_legs (v : Grade) : (s.setGrade v).legs = s.legs := (rfl)
@[simp] theorem State.setGrade_conveyor (v : Grade) : (s.setGrade v).conveyor = s.conveyor := (rfl)
@[simp] theorem State.setGrade_advance (v : Grade) : (s.setGrade v).advance = s.advance := (rfl)
@[simp] theorem State.setGrade_inputs (v : Grade) : (s.setGrade v).inputs = s.inputs := (rfl)
@[simp] theorem State.setGrade_supply (v : Grade) : (s.setGrade v).supply = s.supply := (rfl)
@[simp] theorem State.setGrade_notices (v : Grade) : (s.setGrade v).notices = s.notices := (rfl)
@[simp] theorem State.setGrade_link (v : Grade) : (s.setGrade v).link = s.link := (rfl)
@[simp] theorem State.setGrade_store (v : Grade) : (s.setGrade v).store = s.store := (rfl)
@[simp] theorem State.setGrade_handed (v : Grade) : (s.setGrade v).handed = s.handed := (rfl)
@[simp] theorem State.setGrade_freeCount (v : Grade) : (s.setGrade v).freeCount = s.freeCount := (rfl)
@[simp] theorem State.setGrade_pending (v : Grade) : (s.setGrade v).pending = s.pending := (rfl)
@[simp] theorem State.setGrade_self : s.setGrade s.grade = s := (rfl)
@[simp] theorem State.setGrade_setGrade (v w : Grade) :
    (s.setGrade v).setGrade w = s.setGrade w := (rfl)

@[simp] theorem State.setLegs_travel (v : LegDrive) : (s.setLegs v).travel = s.travel := (rfl)
@[simp] theorem State.setLegs_scanner (v : LegDrive) : (s.setLegs v).scanner = s.scanner := (rfl)
@[simp] theorem State.setLegs_program (v : LegDrive) : (s.setLegs v).program = s.program := (rfl)
@[simp] theorem State.setLegs_obstacles (v : LegDrive) : (s.setLegs v).obstacles = s.obstacles := (rfl)
@[simp] theorem State.setLegs_grade (v : LegDrive) : (s.setLegs v).grade = s.grade := (rfl)
@[simp] theorem State.setLegs_legs (v : LegDrive) : (s.setLegs v).legs = v := (rfl)
@[simp] theorem State.setLegs_conveyor (v : LegDrive) : (s.setLegs v).conveyor = s.conveyor := (rfl)
@[simp] theorem State.setLegs_advance (v : LegDrive) : (s.setLegs v).advance = s.advance := (rfl)
@[simp] theorem State.setLegs_inputs (v : LegDrive) : (s.setLegs v).inputs = s.inputs := (rfl)
@[simp] theorem State.setLegs_supply (v : LegDrive) : (s.setLegs v).supply = s.supply := (rfl)
@[simp] theorem State.setLegs_notices (v : LegDrive) : (s.setLegs v).notices = s.notices := (rfl)
@[simp] theorem State.setLegs_link (v : LegDrive) : (s.setLegs v).link = s.link := (rfl)
@[simp] theorem State.setLegs_store (v : LegDrive) : (s.setLegs v).store = s.store := (rfl)
@[simp] theorem State.setLegs_handed (v : LegDrive) : (s.setLegs v).handed = s.handed := (rfl)
@[simp] theorem State.setLegs_freeCount (v : LegDrive) : (s.setLegs v).freeCount = s.freeCount := (rfl)
@[simp] theorem State.setLegs_pending (v : LegDrive) : (s.setLegs v).pending = s.pending := (rfl)
@[simp] theorem State.setLegs_self : s.setLegs s.legs = s := (rfl)
@[simp] theorem State.setLegs_setLegs (v w : LegDrive) :
    (s.setLegs v).setLegs w = s.setLegs w := (rfl)

@[simp] theorem State.setConveyor_travel (v : Conveyor) : (s.setConveyor v).travel = s.travel := (rfl)
@[simp] theorem State.setConveyor_scanner (v : Conveyor) : (s.setConveyor v).scanner = s.scanner := (rfl)
@[simp] theorem State.setConveyor_program (v : Conveyor) : (s.setConveyor v).program = s.program := (rfl)
@[simp] theorem State.setConveyor_obstacles (v : Conveyor) : (s.setConveyor v).obstacles = s.obstacles := (rfl)
@[simp] theorem State.setConveyor_grade (v : Conveyor) : (s.setConveyor v).grade = s.grade := (rfl)
@[simp] theorem State.setConveyor_legs (v : Conveyor) : (s.setConveyor v).legs = s.legs := (rfl)
@[simp] theorem State.setConveyor_conveyor (v : Conveyor) : (s.setConveyor v).conveyor = v := (rfl)
@[simp] theorem State.setConveyor_advance (v : Conveyor) : (s.setConveyor v).advance = s.advance := (rfl)
@[simp] theorem State.setConveyor_inputs (v : Conveyor) : (s.setConveyor v).inputs = s.inputs := (rfl)
@[simp] theorem State.setConveyor_supply (v : Conveyor) : (s.setConveyor v).supply = s.supply := (rfl)
@[simp] theorem State.setConveyor_notices (v : Conveyor) : (s.setConveyor v).notices = s.notices := (rfl)
@[simp] theorem State.setConveyor_link (v : Conveyor) : (s.setConveyor v).link = s.link := (rfl)
@[simp] theorem State.setConveyor_store (v : Conveyor) : (s.setConveyor v).store = s.store := (rfl)
@[simp] theorem State.setConveyor_handed (v : Conveyor) : (s.setConveyor v).handed = s.handed := (rfl)
@[simp] theorem State.setConveyor_freeCount (v : Conveyor) : (s.setConveyor v).freeCount = s.freeCount := (rfl)
@[simp] theorem State.setConveyor_pending (v : Conveyor) : (s.setConveyor v).pending = s.pending := (rfl)
@[simp] theorem State.setConveyor_self : s.setConveyor s.conveyor = s := (rfl)
@[simp] theorem State.setConveyor_setConveyor (v w : Conveyor) :
    (s.setConveyor v).setConveyor w = s.setConveyor w := (rfl)

@[simp] theorem State.setAdvance_travel (v : Advance) : (s.setAdvance v).travel = s.travel := (rfl)
@[simp] theorem State.setAdvance_scanner (v : Advance) : (s.setAdvance v).scanner = s.scanner := (rfl)
@[simp] theorem State.setAdvance_program (v : Advance) : (s.setAdvance v).program = s.program := (rfl)
@[simp] theorem State.setAdvance_obstacles (v : Advance) : (s.setAdvance v).obstacles = s.obstacles := (rfl)
@[simp] theorem State.setAdvance_grade (v : Advance) : (s.setAdvance v).grade = s.grade := (rfl)
@[simp] theorem State.setAdvance_legs (v : Advance) : (s.setAdvance v).legs = s.legs := (rfl)
@[simp] theorem State.setAdvance_conveyor (v : Advance) : (s.setAdvance v).conveyor = s.conveyor := (rfl)
@[simp] theorem State.setAdvance_advance (v : Advance) : (s.setAdvance v).advance = v := (rfl)
@[simp] theorem State.setAdvance_inputs (v : Advance) : (s.setAdvance v).inputs = s.inputs := (rfl)
@[simp] theorem State.setAdvance_supply (v : Advance) : (s.setAdvance v).supply = s.supply := (rfl)
@[simp] theorem State.setAdvance_notices (v : Advance) : (s.setAdvance v).notices = s.notices := (rfl)
@[simp] theorem State.setAdvance_link (v : Advance) : (s.setAdvance v).link = s.link := (rfl)
@[simp] theorem State.setAdvance_store (v : Advance) : (s.setAdvance v).store = s.store := (rfl)
@[simp] theorem State.setAdvance_handed (v : Advance) : (s.setAdvance v).handed = s.handed := (rfl)
@[simp] theorem State.setAdvance_freeCount (v : Advance) : (s.setAdvance v).freeCount = s.freeCount := (rfl)
@[simp] theorem State.setAdvance_pending (v : Advance) : (s.setAdvance v).pending = s.pending := (rfl)
@[simp] theorem State.setAdvance_self : s.setAdvance s.advance = s := (rfl)
@[simp] theorem State.setAdvance_setAdvance (v w : Advance) :
    (s.setAdvance v).setAdvance w = s.setAdvance w := (rfl)

@[simp] theorem State.setInputs_travel (v : PerInput InputFilter) : (s.setInputs v).travel = s.travel := (rfl)
@[simp] theorem State.setInputs_scanner (v : PerInput InputFilter) : (s.setInputs v).scanner = s.scanner := (rfl)
@[simp] theorem State.setInputs_program (v : PerInput InputFilter) : (s.setInputs v).program = s.program := (rfl)
@[simp] theorem State.setInputs_obstacles (v : PerInput InputFilter) : (s.setInputs v).obstacles = s.obstacles := (rfl)
@[simp] theorem State.setInputs_grade (v : PerInput InputFilter) : (s.setInputs v).grade = s.grade := (rfl)
@[simp] theorem State.setInputs_legs (v : PerInput InputFilter) : (s.setInputs v).legs = s.legs := (rfl)
@[simp] theorem State.setInputs_conveyor (v : PerInput InputFilter) : (s.setInputs v).conveyor = s.conveyor := (rfl)
@[simp] theorem State.setInputs_advance (v : PerInput InputFilter) : (s.setInputs v).advance = s.advance := (rfl)
@[simp] theorem State.setInputs_inputs (v : PerInput InputFilter) : (s.setInputs v).inputs = v := (rfl)
@[simp] theorem State.setInputs_supply (v : PerInput InputFilter) : (s.setInputs v).supply = s.supply := (rfl)
@[simp] theorem State.setInputs_notices (v : PerInput InputFilter) : (s.setInputs v).notices = s.notices := (rfl)
@[simp] theorem State.setInputs_link (v : PerInput InputFilter) : (s.setInputs v).link = s.link := (rfl)
@[simp] theorem State.setInputs_store (v : PerInput InputFilter) : (s.setInputs v).store = s.store := (rfl)
@[simp] theorem State.setInputs_handed (v : PerInput InputFilter) : (s.setInputs v).handed = s.handed := (rfl)
@[simp] theorem State.setInputs_freeCount (v : PerInput InputFilter) : (s.setInputs v).freeCount = s.freeCount := (rfl)
@[simp] theorem State.setInputs_pending (v : PerInput InputFilter) : (s.setInputs v).pending = s.pending := (rfl)
@[simp] theorem State.setInputs_self : s.setInputs s.inputs = s := (rfl)
@[simp] theorem State.setInputs_setInputs (v w : PerInput InputFilter) :
    (s.setInputs v).setInputs w = s.setInputs w := (rfl)

@[simp] theorem State.setSupply_travel (v : Supply) : (s.setSupply v).travel = s.travel := (rfl)
@[simp] theorem State.setSupply_scanner (v : Supply) : (s.setSupply v).scanner = s.scanner := (rfl)
@[simp] theorem State.setSupply_program (v : Supply) : (s.setSupply v).program = s.program := (rfl)
@[simp] theorem State.setSupply_obstacles (v : Supply) : (s.setSupply v).obstacles = s.obstacles := (rfl)
@[simp] theorem State.setSupply_grade (v : Supply) : (s.setSupply v).grade = s.grade := (rfl)
@[simp] theorem State.setSupply_legs (v : Supply) : (s.setSupply v).legs = s.legs := (rfl)
@[simp] theorem State.setSupply_conveyor (v : Supply) : (s.setSupply v).conveyor = s.conveyor := (rfl)
@[simp] theorem State.setSupply_advance (v : Supply) : (s.setSupply v).advance = s.advance := (rfl)
@[simp] theorem State.setSupply_inputs (v : Supply) : (s.setSupply v).inputs = s.inputs := (rfl)
@[simp] theorem State.setSupply_supply (v : Supply) : (s.setSupply v).supply = v := (rfl)
@[simp] theorem State.setSupply_notices (v : Supply) : (s.setSupply v).notices = s.notices := (rfl)
@[simp] theorem State.setSupply_link (v : Supply) : (s.setSupply v).link = s.link := (rfl)
@[simp] theorem State.setSupply_store (v : Supply) : (s.setSupply v).store = s.store := (rfl)
@[simp] theorem State.setSupply_handed (v : Supply) : (s.setSupply v).handed = s.handed := (rfl)
@[simp] theorem State.setSupply_freeCount (v : Supply) : (s.setSupply v).freeCount = s.freeCount := (rfl)
@[simp] theorem State.setSupply_pending (v : Supply) : (s.setSupply v).pending = s.pending := (rfl)
@[simp] theorem State.setSupply_self : s.setSupply s.supply = s := (rfl)
@[simp] theorem State.setSupply_setSupply (v w : Supply) :
    (s.setSupply v).setSupply w = s.setSupply w := (rfl)

@[simp] theorem State.setNotices_travel (v : Notices) : (s.setNotices v).travel = s.travel := (rfl)
@[simp] theorem State.setNotices_scanner (v : Notices) : (s.setNotices v).scanner = s.scanner := (rfl)
@[simp] theorem State.setNotices_program (v : Notices) : (s.setNotices v).program = s.program := (rfl)
@[simp] theorem State.setNotices_obstacles (v : Notices) : (s.setNotices v).obstacles = s.obstacles := (rfl)
@[simp] theorem State.setNotices_grade (v : Notices) : (s.setNotices v).grade = s.grade := (rfl)
@[simp] theorem State.setNotices_legs (v : Notices) : (s.setNotices v).legs = s.legs := (rfl)
@[simp] theorem State.setNotices_conveyor (v : Notices) : (s.setNotices v).conveyor = s.conveyor := (rfl)
@[simp] theorem State.setNotices_advance (v : Notices) : (s.setNotices v).advance = s.advance := (rfl)
@[simp] theorem State.setNotices_inputs (v : Notices) : (s.setNotices v).inputs = s.inputs := (rfl)
@[simp] theorem State.setNotices_supply (v : Notices) : (s.setNotices v).supply = s.supply := (rfl)
@[simp] theorem State.setNotices_notices (v : Notices) : (s.setNotices v).notices = v := (rfl)
@[simp] theorem State.setNotices_link (v : Notices) : (s.setNotices v).link = s.link := (rfl)
@[simp] theorem State.setNotices_store (v : Notices) : (s.setNotices v).store = s.store := (rfl)
@[simp] theorem State.setNotices_handed (v : Notices) : (s.setNotices v).handed = s.handed := (rfl)
@[simp] theorem State.setNotices_freeCount (v : Notices) : (s.setNotices v).freeCount = s.freeCount := (rfl)
@[simp] theorem State.setNotices_pending (v : Notices) : (s.setNotices v).pending = s.pending := (rfl)
@[simp] theorem State.setNotices_self : s.setNotices s.notices = s := (rfl)
@[simp] theorem State.setNotices_setNotices (v w : Notices) :
    (s.setNotices v).setNotices w = s.setNotices w := (rfl)

@[simp] theorem State.setLink_travel (v : Link) : (s.setLink v).travel = s.travel := (rfl)
@[simp] theorem State.setLink_scanner (v : Link) : (s.setLink v).scanner = s.scanner := (rfl)
@[simp] theorem State.setLink_program (v : Link) : (s.setLink v).program = s.program := (rfl)
@[simp] theorem State.setLink_obstacles (v : Link) : (s.setLink v).obstacles = s.obstacles := (rfl)
@[simp] theorem State.setLink_grade (v : Link) : (s.setLink v).grade = s.grade := (rfl)
@[simp] theorem State.setLink_legs (v : Link) : (s.setLink v).legs = s.legs := (rfl)
@[simp] theorem State.setLink_conveyor (v : Link) : (s.setLink v).conveyor = s.conveyor := (rfl)
@[simp] theorem State.setLink_advance (v : Link) : (s.setLink v).advance = s.advance := (rfl)
@[simp] theorem State.setLink_inputs (v : Link) : (s.setLink v).inputs = s.inputs := (rfl)
@[simp] theorem State.setLink_supply (v : Link) : (s.setLink v).supply = s.supply := (rfl)
@[simp] theorem State.setLink_notices (v : Link) : (s.setLink v).notices = s.notices := (rfl)
@[simp] theorem State.setLink_link (v : Link) : (s.setLink v).link = v := (rfl)
@[simp] theorem State.setLink_store (v : Link) : (s.setLink v).store = s.store := (rfl)
@[simp] theorem State.setLink_handed (v : Link) : (s.setLink v).handed = s.handed := (rfl)
@[simp] theorem State.setLink_freeCount (v : Link) : (s.setLink v).freeCount = s.freeCount := (rfl)
@[simp] theorem State.setLink_pending (v : Link) : (s.setLink v).pending = s.pending := (rfl)
@[simp] theorem State.setLink_self : s.setLink s.link = s := (rfl)
@[simp] theorem State.setLink_setLink (v w : Link) :
    (s.setLink v).setLink w = s.setLink w := (rfl)

@[simp] theorem State.setStore_travel (v : Store) : (s.setStore v).travel = s.travel := (rfl)
@[simp] theorem State.setStore_scanner (v : Store) : (s.setStore v).scanner = s.scanner := (rfl)
@[simp] theorem State.setStore_program (v : Store) : (s.setStore v).program = s.program := (rfl)
@[simp] theorem State.setStore_obstacles (v : Store) : (s.setStore v).obstacles = s.obstacles := (rfl)
@[simp] theorem State.setStore_grade (v : Store) : (s.setStore v).grade = s.grade := (rfl)
@[simp] theorem State.setStore_legs (v : Store) : (s.setStore v).legs = s.legs := (rfl)
@[simp] theorem State.setStore_conveyor (v : Store) : (s.setStore v).conveyor = s.conveyor := (rfl)
@[simp] theorem State.setStore_advance (v : Store) : (s.setStore v).advance = s.advance := (rfl)
@[simp] theorem State.setStore_inputs (v : Store) : (s.setStore v).inputs = s.inputs := (rfl)
@[simp] theorem State.setStore_supply (v : Store) : (s.setStore v).supply = s.supply := (rfl)
@[simp] theorem State.setStore_notices (v : Store) : (s.setStore v).notices = s.notices := (rfl)
@[simp] theorem State.setStore_link (v : Store) : (s.setStore v).link = s.link := (rfl)
@[simp] theorem State.setStore_store (v : Store) : (s.setStore v).store = v := (rfl)
@[simp] theorem State.setStore_handed (v : Store) : (s.setStore v).handed = s.handed := (rfl)
@[simp] theorem State.setStore_freeCount (v : Store) : (s.setStore v).freeCount = s.freeCount := (rfl)
@[simp] theorem State.setStore_pending (v : Store) : (s.setStore v).pending = s.pending := (rfl)
@[simp] theorem State.setStore_self : s.setStore s.store = s := (rfl)
@[simp] theorem State.setStore_setStore (v w : Store) :
    (s.setStore v).setStore w = s.setStore w := (rfl)

@[simp] theorem State.setHanded_travel (v : List Instr) : (s.setHanded v).travel = s.travel := (rfl)
@[simp] theorem State.setHanded_scanner (v : List Instr) : (s.setHanded v).scanner = s.scanner := (rfl)
@[simp] theorem State.setHanded_program (v : List Instr) : (s.setHanded v).program = s.program := (rfl)
@[simp] theorem State.setHanded_obstacles (v : List Instr) : (s.setHanded v).obstacles = s.obstacles := (rfl)
@[simp] theorem State.setHanded_grade (v : List Instr) : (s.setHanded v).grade = s.grade := (rfl)
@[simp] theorem State.setHanded_legs (v : List Instr) : (s.setHanded v).legs = s.legs := (rfl)
@[simp] theorem State.setHanded_conveyor (v : List Instr) : (s.setHanded v).conveyor = s.conveyor := (rfl)
@[simp] theorem State.setHanded_advance (v : List Instr) : (s.setHanded v).advance = s.advance := (rfl)
@[simp] theorem State.setHanded_inputs (v : List Instr) : (s.setHanded v).inputs = s.inputs := (rfl)
@[simp] theorem State.setHanded_supply (v : List Instr) : (s.setHanded v).supply = s.supply := (rfl)
@[simp] theorem State.setHanded_notices (v : List Instr) : (s.setHanded v).notices = s.notices := (rfl)
@[simp] theorem State.setHanded_link (v : List Instr) : (s.setHanded v).link = s.link := (rfl)
@[simp] theorem State.setHanded_store (v : List Instr) : (s.setHanded v).store = s.store := (rfl)
@[simp] theorem State.setHanded_handed (v : List Instr) : (s.setHanded v).handed = v := (rfl)
@[simp] theorem State.setHanded_freeCount (v : List Instr) : (s.setHanded v).freeCount = s.freeCount := (rfl)
@[simp] theorem State.setHanded_pending (v : List Instr) : (s.setHanded v).pending = s.pending := (rfl)
@[simp] theorem State.setHanded_self : s.setHanded s.handed = s := (rfl)
@[simp] theorem State.setHanded_setHanded (v w : List Instr) :
    (s.setHanded v).setHanded w = s.setHanded w := (rfl)

@[simp] theorem State.setFreeCount_travel (v : Nat) : (s.setFreeCount v).travel = s.travel := (rfl)
@[simp] theorem State.setFreeCount_scanner (v : Nat) : (s.setFreeCount v).scanner = s.scanner := (rfl)
@[simp] theorem State.setFreeCount_program (v : Nat) : (s.setFreeCount v).program = s.program := (rfl)
@[simp] theorem State.setFreeCount_obstacles (v : Nat) : (s.setFreeCount v).obstacles = s.obstacles := (rfl)
@[simp] theorem State.setFreeCount_grade (v : Nat) : (s.setFreeCount v).grade = s.grade := (rfl)
@[simp] theorem State.setFreeCount_legs (v : Nat) : (s.setFreeCount v).legs = s.legs := (rfl)
@[simp] theorem State.setFreeCount_conveyor (v : Nat) : (s.setFreeCount v).conveyor = s.conveyor := (rfl)
@[simp] theorem State.setFreeCount_advance (v : Nat) : (s.setFreeCount v).advance = s.advance := (rfl)
@[simp] theorem State.setFreeCount_inputs (v : Nat) : (s.setFreeCount v).inputs = s.inputs := (rfl)
@[simp] theorem State.setFreeCount_supply (v : Nat) : (s.setFreeCount v).supply = s.supply := (rfl)
@[simp] theorem State.setFreeCount_notices (v : Nat) : (s.setFreeCount v).notices = s.notices := (rfl)
@[simp] theorem State.setFreeCount_link (v : Nat) : (s.setFreeCount v).link = s.link := (rfl)
@[simp] theorem State.setFreeCount_store (v : Nat) : (s.setFreeCount v).store = s.store := (rfl)
@[simp] theorem State.setFreeCount_handed (v : Nat) : (s.setFreeCount v).handed = s.handed := (rfl)
@[simp] theorem State.setFreeCount_freeCount (v : Nat) : (s.setFreeCount v).freeCount = v := (rfl)
@[simp] theorem State.setFreeCount_pending (v : Nat) : (s.setFreeCount v).pending = s.pending := (rfl)
@[simp] theorem State.setFreeCount_self : s.setFreeCount s.freeCount = s := (rfl)
@[simp] theorem State.setFreeCount_setFreeCount (v w : Nat) :
    (s.setFreeCount v).setFreeCount w = s.setFreeCount w := (rfl)

@[simp] theorem State.setPending_travel (v : List Instr) : (s.setPending v).travel = s.travel := (rfl)
@[simp] theorem State.setPending_scanner (v : List Instr) : (s.setPending v).scanner = s.scanner := (rfl)
@[simp] theorem State.setPending_program (v : List Instr) : (s.setPending v).program = s.program := (rfl)
@[simp] theorem State.setPending_obstacles (v : List Instr) : (s.setPending v).obstacles = s.obstacles := (rfl)
@[simp] theorem State.setPending_grade (v : List Instr) : (s.setPending v).grade = s.grade := (rfl)
@[simp] theorem State.setPending_legs (v : List Instr) : (s.setPending v).legs = s.legs := (rfl)
@[simp] theorem State.setPending_conveyor (v : List Instr) : (s.setPending v).conveyor = s.conveyor := (rfl)
@[simp] theorem State.setPending_advance (v : List Instr) : (s.setPending v).advance = s.advance := (rfl)
@[simp] theorem State.setPending_inputs (v : List Instr) : (s.setPending v).inputs = s.inputs := (rfl)
@[simp] theorem State.setPending_supply (v : List Instr) : (s.setPending v).supply = s.supply := (rfl)
@[simp] theorem State.setPending_notices (v : List Instr) : (s.setPending v).notices = s.notices := (rfl)
@[simp] theorem State.setPending_link (v : List Instr) : (s.setPending v).link = s.link := (rfl)
@[simp] theorem State.setPending_store (v : List Instr) : (s.setPending v).store = s.store := (rfl)
@[simp] theorem State.setPending_handed (v : List Instr) : (s.setPending v).handed = s.handed := (rfl)
@[simp] theorem State.setPending_freeCount (v : List Instr) : (s.setPending v).freeCount = s.freeCount := (rfl)
@[simp] theorem State.setPending_pending (v : List Instr) : (s.setPending v).pending = v := (rfl)
@[simp] theorem State.setPending_self : s.setPending s.pending = s := (rfl)
@[simp] theorem State.setPending_setPending (v w : List Instr) :
    (s.setPending v).setPending w = s.setPending w := (rfl)

end Sys2Proof.Machine
end

