-- ==== Sys2Proof/Laws/Ops.lean ====
section
/-! SUPPORT. What the shared operations leave unchanged: one lemma per operation and block of the state. -/

namespace Sys2Proof.Machine

open Sys2Proof

@[simp] theorem hand_frame (s : State) (e : Instr) :
    (hand s e).travel = s.travel ∧
      (hand s e).scanner = s.scanner ∧
      (hand s e).program = s.program ∧
      (hand s e).obstacles = s.obstacles ∧
      (hand s e).grade = s.grade ∧
      (hand s e).legs = s.legs ∧
      (hand s e).conveyor = s.conveyor ∧
      (hand s e).advance = s.advance ∧
      (hand s e).inputs = s.inputs ∧
      (hand s e).supply = s.supply ∧
      (hand s e).notices = s.notices ∧
      (hand s e).link = s.link ∧
      (hand s e).store = s.store ∧
      (hand s e).freeCount = s.freeCount ∧
      (hand s e).pending = s.pending := by
  refine ⟨rfl, rfl, rfl, rfl, rfl, rfl, rfl, rfl, rfl, rfl, rfl, rfl, rfl, rfl, rfl⟩

@[simp] theorem takeHanded_frame (s : State) (e : Instr) :
    (takeHanded s e).travel = s.travel ∧
      (takeHanded s e).scanner = s.scanner ∧
      (takeHanded s e).program = s.program ∧
      (takeHanded s e).obstacles = s.obstacles ∧
      (takeHanded s e).grade = s.grade ∧
      (takeHanded s e).legs = s.legs ∧
      (takeHanded s e).conveyor = s.conveyor ∧
      (takeHanded s e).advance = s.advance ∧
      (takeHanded s e).inputs = s.inputs ∧
      (takeHanded s e).supply = s.supply ∧
      (takeHanded s e).notices = s.notices ∧
      (takeHanded s e).link = s.link ∧
      (takeHanded s e).store = s.store ∧
      (takeHanded s e).freeCount = s.freeCount ∧
      (takeHanded s e).pending = s.pending := by
  refine ⟨rfl, rfl, rfl, rfl, rfl, rfl, rfl, rfl, rfl, rfl, rfl, rfl, rfl, rfl, rfl⟩

@[simp] theorem takeOccurrence_frame (s : State) (c : NoticeClass) (x : Nat) (d : NoticeDetail) :
    (takeOccurrence s c x d).travel = s.travel ∧
      (takeOccurrence s c x d).scanner = s.scanner ∧
      (takeOccurrence s c x d).program = s.program ∧
      (takeOccurrence s c x d).obstacles = s.obstacles ∧
      (takeOccurrence s c x d).grade = s.grade ∧
      (takeOccurrence s c x d).legs = s.legs ∧
      (takeOccurrence s c x d).conveyor = s.conveyor ∧
      (takeOccurrence s c x d).advance = s.advance ∧
      (takeOccurrence s c x d).inputs = s.inputs ∧
      (takeOccurrence s c x d).supply = s.supply ∧
      (takeOccurrence s c x d).link = s.link ∧
      (takeOccurrence s c x d).store = s.store ∧
      (takeOccurrence s c x d).handed = s.handed ∧
      (takeOccurrence s c x d).freeCount = s.freeCount ∧
      (takeOccurrence s c x d).pending = s.pending := by
  refine ⟨rfl, rfl, rfl, rfl, rfl, rfl, rfl, rfl, rfl, rfl, rfl, rfl, rfl, rfl, rfl⟩

@[simp] theorem sendNotice_frame (s : State) (c : NoticeClass) (n : Notice) :
    (sendNotice s c n).travel = s.travel ∧
      (sendNotice s c n).scanner = s.scanner ∧
      (sendNotice s c n).program = s.program ∧
      (sendNotice s c n).obstacles = s.obstacles ∧
      (sendNotice s c n).grade = s.grade ∧
      (sendNotice s c n).legs = s.legs ∧
      (sendNotice s c n).conveyor = s.conveyor ∧
      (sendNotice s c n).advance = s.advance ∧
      (sendNotice s c n).inputs = s.inputs ∧
      (sendNotice s c n).supply = s.supply ∧
      (sendNotice s c n).store = s.store ∧
      (sendNotice s c n).handed = s.handed ∧
      (sendNotice s c n).freeCount = s.freeCount ∧
      (sendNotice s c n).pending = s.pending := by
  refine ⟨rfl, rfl, rfl, rfl, rfl, rfl, rfl, rfl, rfl, rfl, rfl, rfl, rfl, rfl⟩

@[simp] theorem offerNotice_frame (s : State) :
    (offerNotice s).travel = s.travel ∧
      (offerNotice s).scanner = s.scanner ∧
      (offerNotice s).program = s.program ∧
      (offerNotice s).obstacles = s.obstacles ∧
      (offerNotice s).grade = s.grade ∧
      (offerNotice s).legs = s.legs ∧
      (offerNotice s).conveyor = s.conveyor ∧
      (offerNotice s).advance = s.advance ∧
      (offerNotice s).inputs = s.inputs ∧
      (offerNotice s).supply = s.supply ∧
      (offerNotice s).store = s.store ∧
      (offerNotice s).handed = s.handed ∧
      (offerNotice s).freeCount = s.freeCount ∧
      (offerNotice s).pending = s.pending := by
  simp only [offerNotice]
  (repeat' split) <;> simp

@[simp] theorem arbitrate_frame (s : State) :
    (arbitrate s).travel = s.travel ∧
      (arbitrate s).scanner = s.scanner ∧
      (arbitrate s).program = s.program ∧
      (arbitrate s).obstacles = s.obstacles ∧
      (arbitrate s).grade = s.grade ∧
      (arbitrate s).legs = s.legs ∧
      (arbitrate s).conveyor = s.conveyor ∧
      (arbitrate s).advance = s.advance ∧
      (arbitrate s).inputs = s.inputs ∧
      (arbitrate s).supply = s.supply ∧
      (arbitrate s).store = s.store ∧
      (arbitrate s).handed = s.handed ∧
      (arbitrate s).freeCount = s.freeCount ∧
      (arbitrate s).pending = s.pending := by
  simp only [arbitrate]
  (repeat' split) <;> simp

@[simp] theorem postAt_frame (s : State) (c : NoticeClass) (x : Nat) (d : NoticeDetail) :
    (postAt s c x d).travel = s.travel ∧
      (postAt s c x d).scanner = s.scanner ∧
      (postAt s c x d).program = s.program ∧
      (postAt s c x d).obstacles = s.obstacles ∧
      (postAt s c x d).grade = s.grade ∧
      (postAt s c x d).legs = s.legs ∧
      (postAt s c x d).conveyor = s.conveyor ∧
      (postAt s c x d).advance = s.advance ∧
      (postAt s c x d).inputs = s.inputs ∧
      (postAt s c x d).supply = s.supply ∧
      (postAt s c x d).store = s.store ∧
      (postAt s c x d).handed = s.handed ∧
      (postAt s c x d).freeCount = s.freeCount ∧
      (postAt s c x d).pending = s.pending := by
  simp [postAt]

@[simp] theorem post_frame (s : State) (c : NoticeClass) (d : NoticeDetail) :
    (post s c d).travel = s.travel ∧
      (post s c d).scanner = s.scanner ∧
      (post s c d).program = s.program ∧
      (post s c d).obstacles = s.obstacles ∧
      (post s c d).grade = s.grade ∧
      (post s c d).legs = s.legs ∧
      (post s c d).conveyor = s.conveyor ∧
      (post s c d).advance = s.advance ∧
      (post s c d).inputs = s.inputs ∧
      (post s c d).supply = s.supply ∧
      (post s c d).store = s.store ∧
      (post s c d).handed = s.handed ∧
      (post s c d).freeCount = s.freeCount ∧
      (post s c d).pending = s.pending := by
  simp [post]

@[simp] theorem placeReply_frame (s : State) (r : Reply) :
    (placeReply s r).travel = s.travel ∧
      (placeReply s r).scanner = s.scanner ∧
      (placeReply s r).program = s.program ∧
      (placeReply s r).obstacles = s.obstacles ∧
      (placeReply s r).grade = s.grade ∧
      (placeReply s r).legs = s.legs ∧
      (placeReply s r).conveyor = s.conveyor ∧
      (placeReply s r).advance = s.advance ∧
      (placeReply s r).inputs = s.inputs ∧
      (placeReply s r).supply = s.supply ∧
      (placeReply s r).store = s.store ∧
      (placeReply s r).handed = s.handed ∧
      (placeReply s r).freeCount = s.freeCount ∧
      (placeReply s r).pending = s.pending := by
  simp [placeReply]

@[simp] theorem setLeg_frame (s : State) (d : Side) (l : Leg) :
    (setLeg s d l).travel = s.travel ∧
      (setLeg s d l).scanner = s.scanner ∧
      (setLeg s d l).program = s.program ∧
      (setLeg s d l).obstacles = s.obstacles ∧
      (setLeg s d l).grade = s.grade ∧
      (setLeg s d l).conveyor = s.conveyor ∧
      (setLeg s d l).advance = s.advance ∧
      (setLeg s d l).inputs = s.inputs ∧
      (setLeg s d l).supply = s.supply ∧
      (setLeg s d l).notices = s.notices ∧
      (setLeg s d l).link = s.link ∧
      (setLeg s d l).store = s.store ∧
      (setLeg s d l).handed = s.handed ∧
      (setLeg s d l).freeCount = s.freeCount ∧
      (setLeg s d l).pending = s.pending := by
  refine ⟨rfl, rfl, rfl, rfl, rfl, rfl, rfl, rfl, rfl, rfl, rfl, rfl, rfl, rfl, rfl⟩

@[simp] theorem reportLeftAuto_frame (s : State) (d : Side) (m n : LegMode) :
    (reportLeftAuto s d m n).travel = s.travel ∧
      (reportLeftAuto s d m n).scanner = s.scanner ∧
      (reportLeftAuto s d m n).program = s.program ∧
      (reportLeftAuto s d m n).obstacles = s.obstacles ∧
      (reportLeftAuto s d m n).grade = s.grade ∧
      (reportLeftAuto s d m n).legs = s.legs ∧
      (reportLeftAuto s d m n).conveyor = s.conveyor ∧
      (reportLeftAuto s d m n).advance = s.advance ∧
      (reportLeftAuto s d m n).inputs = s.inputs ∧
      (reportLeftAuto s d m n).supply = s.supply ∧
      (reportLeftAuto s d m n).notices = s.notices ∧
      (reportLeftAuto s d m n).link = s.link ∧
      (reportLeftAuto s d m n).store = s.store ∧
      (reportLeftAuto s d m n).freeCount = s.freeCount ∧
      (reportLeftAuto s d m n).pending = s.pending := by
  simp only [reportLeftAuto]
  (repeat' split) <;> simp

@[simp] theorem enterMode_frame (s : State) (d : Side) (m : LegMode) :
    (enterMode s d m).travel = s.travel ∧
      (enterMode s d m).scanner = s.scanner ∧
      (enterMode s d m).program = s.program ∧
      (enterMode s d m).obstacles = s.obstacles ∧
      (enterMode s d m).grade = s.grade ∧
      (enterMode s d m).conveyor = s.conveyor ∧
      (enterMode s d m).advance = s.advance ∧
      (enterMode s d m).inputs = s.inputs ∧
      (enterMode s d m).supply = s.supply ∧
      (enterMode s d m).notices = s.notices ∧
      (enterMode s d m).link = s.link ∧
      (enterMode s d m).store = s.store ∧
      (enterMode s d m).freeCount = s.freeCount ∧
      (enterMode s d m).pending = s.pending := by
  simp [enterMode]

@[simp] theorem reportLeftHold_frame (s : State) (d : Side) (m n : LegMode) :
    (reportLeftHold s d m n).travel = s.travel ∧
      (reportLeftHold s d m n).scanner = s.scanner ∧
      (reportLeftHold s d m n).program = s.program ∧
      (reportLeftHold s d m n).obstacles = s.obstacles ∧
      (reportLeftHold s d m n).grade = s.grade ∧
      (reportLeftHold s d m n).legs = s.legs ∧
      (reportLeftHold s d m n).conveyor = s.conveyor ∧
      (reportLeftHold s d m n).advance = s.advance ∧
      (reportLeftHold s d m n).inputs = s.inputs ∧
      (reportLeftHold s d m n).supply = s.supply ∧
      (reportLeftHold s d m n).notices = s.notices ∧
      (reportLeftHold s d m n).link = s.link ∧
      (reportLeftHold s d m n).store = s.store ∧
      (reportLeftHold s d m n).freeCount = s.freeCount ∧
      (reportLeftHold s d m n).pending = s.pending := by
  simp only [reportLeftHold]
  (repeat' split) <;> simp

@[simp] theorem holdIfAuto_frame (s : State) (d : Side) :
    (holdIfAuto s d).travel = s.travel ∧
      (holdIfAuto s d).scanner = s.scanner ∧
      (holdIfAuto s d).program = s.program ∧
      (holdIfAuto s d).obstacles = s.obstacles ∧
      (holdIfAuto s d).grade = s.grade ∧
      (holdIfAuto s d).conveyor = s.conveyor ∧
      (holdIfAuto s d).advance = s.advance ∧
      (holdIfAuto s d).inputs = s.inputs ∧
      (holdIfAuto s d).supply = s.supply ∧
      (holdIfAuto s d).notices = s.notices ∧
      (holdIfAuto s d).link = s.link ∧
      (holdIfAuto s d).store = s.store ∧
      (holdIfAuto s d).freeCount = s.freeCount ∧
      (holdIfAuto s d).pending = s.pending := by
  simp only [holdIfAuto]
  (repeat' split) <;> simp

@[simp] theorem setHolds_frame (s : State) (h : PerReason (Option Nat)) :
    (setHolds s h).travel = s.travel ∧
      (setHolds s h).scanner = s.scanner ∧
      (setHolds s h).program = s.program ∧
      (setHolds s h).obstacles = s.obstacles ∧
      (setHolds s h).grade = s.grade ∧
      (setHolds s h).legs = s.legs ∧
      (setHolds s h).conveyor = s.conveyor ∧
      (setHolds s h).inputs = s.inputs ∧
      (setHolds s h).supply = s.supply ∧
      (setHolds s h).notices = s.notices ∧
      (setHolds s h).link = s.link ∧
      (setHolds s h).store = s.store ∧
      (setHolds s h).handed = s.handed ∧
      (setHolds s h).freeCount = s.freeCount ∧
      (setHolds s h).pending = s.pending := by
  refine ⟨rfl, rfl, rfl, rfl, rfl, rfl, rfl, rfl, rfl, rfl, rfl, rfl, rfl, rfl, rfl⟩

@[simp] theorem addReason_frame (s : State) (r : HoldReason) (c : Nat) :
    (addReason s r c).travel = s.travel ∧
      (addReason s r c).scanner = s.scanner ∧
      (addReason s r c).program = s.program ∧
      (addReason s r c).obstacles = s.obstacles ∧
      (addReason s r c).grade = s.grade ∧
      (addReason s r c).legs = s.legs ∧
      (addReason s r c).conveyor = s.conveyor ∧
      (addReason s r c).inputs = s.inputs ∧
      (addReason s r c).supply = s.supply ∧
      (addReason s r c).notices = s.notices ∧
      (addReason s r c).link = s.link ∧
      (addReason s r c).store = s.store ∧
      (addReason s r c).handed = s.handed ∧
      (addReason s r c).freeCount = s.freeCount ∧
      (addReason s r c).pending = s.pending := by
  refine ⟨rfl, rfl, rfl, rfl, rfl, rfl, rfl, rfl, rfl, rfl, rfl, rfl, rfl, rfl, rfl⟩

@[simp] theorem withdrawReason_frame (s : State) (r : HoldReason) :
    (withdrawReason s r).travel = s.travel ∧
      (withdrawReason s r).scanner = s.scanner ∧
      (withdrawReason s r).program = s.program ∧
      (withdrawReason s r).obstacles = s.obstacles ∧
      (withdrawReason s r).grade = s.grade ∧
      (withdrawReason s r).legs = s.legs ∧
      (withdrawReason s r).conveyor = s.conveyor ∧
      (withdrawReason s r).inputs = s.inputs ∧
      (withdrawReason s r).supply = s.supply ∧
      (withdrawReason s r).notices = s.notices ∧
      (withdrawReason s r).link = s.link ∧
      (withdrawReason s r).store = s.store ∧
      (withdrawReason s r).handed = s.handed ∧
      (withdrawReason s r).freeCount = s.freeCount ∧
      (withdrawReason s r).pending = s.pending := by
  refine ⟨rfl, rfl, rfl, rfl, rfl, rfl, rfl, rfl, rfl, rfl, rfl, rfl, rfl, rfl, rfl⟩

end Sys2Proof.Machine
end

