-- ==== Sys2Proof/Laws/Blocks.lean ====
section
/-! SUPPORT. What the operations of the blocks leave unchanged: one lemma per operation and block of the state. -/

namespace Sys2Proof.Machine

open Sys2Proof

@[simp] theorem evaluateLowWater_frame (s : State) :
    (evaluateLowWater s).travel = s.travel ∧
      (evaluateLowWater s).scanner = s.scanner ∧
      (evaluateLowWater s).obstacles = s.obstacles ∧
      (evaluateLowWater s).grade = s.grade ∧
      (evaluateLowWater s).legs = s.legs ∧
      (evaluateLowWater s).conveyor = s.conveyor ∧
      (evaluateLowWater s).advance = s.advance ∧
      (evaluateLowWater s).inputs = s.inputs ∧
      (evaluateLowWater s).supply = s.supply ∧
      (evaluateLowWater s).store = s.store ∧
      (evaluateLowWater s).handed = s.handed ∧
      (evaluateLowWater s).freeCount = s.freeCount ∧
      (evaluateLowWater s).pending = s.pending := by
  simp only [evaluateLowWater]
  (repeat' split) <;> simp

@[simp] theorem notePosition_frame (s : State) (o : Position) :
    (notePosition s o).travel = s.travel ∧
      (notePosition s o).scanner = s.scanner ∧
      (notePosition s o).program = s.program ∧
      (notePosition s o).obstacles = s.obstacles ∧
      (notePosition s o).grade = s.grade ∧
      (notePosition s o).legs = s.legs ∧
      (notePosition s o).conveyor = s.conveyor ∧
      (notePosition s o).advance = s.advance ∧
      (notePosition s o).inputs = s.inputs ∧
      (notePosition s o).supply = s.supply ∧
      (notePosition s o).store = s.store ∧
      (notePosition s o).freeCount = s.freeCount ∧
      (notePosition s o).pending = s.pending := by
  simp only [notePosition]
  (repeat' split) <;> simp

@[simp] theorem noteDone_frame (s : State) :
    (noteDone s).travel = s.travel ∧
      (noteDone s).scanner = s.scanner ∧
      (noteDone s).program = s.program ∧
      (noteDone s).obstacles = s.obstacles ∧
      (noteDone s).grade = s.grade ∧
      (noteDone s).legs = s.legs ∧
      (noteDone s).conveyor = s.conveyor ∧
      (noteDone s).advance = s.advance ∧
      (noteDone s).inputs = s.inputs ∧
      (noteDone s).supply = s.supply ∧
      (noteDone s).store = s.store ∧
      (noteDone s).handed = s.handed ∧
      (noteDone s).freeCount = s.freeCount ∧
      (noteDone s).pending = s.pending := by
  simp only [noteDone]
  (repeat' split) <;> simp

@[simp] theorem dropHead_frame (s : State) :
    (dropHead s).travel = s.travel ∧
      (dropHead s).scanner = s.scanner ∧
      (dropHead s).obstacles = s.obstacles ∧
      (dropHead s).grade = s.grade ∧
      (dropHead s).legs = s.legs ∧
      (dropHead s).conveyor = s.conveyor ∧
      (dropHead s).advance = s.advance ∧
      (dropHead s).inputs = s.inputs ∧
      (dropHead s).supply = s.supply ∧
      (dropHead s).notices = s.notices ∧
      (dropHead s).link = s.link ∧
      (dropHead s).store = s.store ∧
      (dropHead s).handed = s.handed ∧
      (dropHead s).freeCount = s.freeCount ∧
      (dropHead s).pending = s.pending := by
  simp only [dropHead]
  (repeat' split) <;> simp

@[simp] theorem programStationChange_frame (s : State) (x : Nat) (d : Direction) :
    (programStationChange s x d).travel = s.travel ∧
      (programStationChange s x d).scanner = s.scanner ∧
      (programStationChange s x d).obstacles = s.obstacles ∧
      (programStationChange s x d).grade = s.grade ∧
      (programStationChange s x d).legs = s.legs ∧
      (programStationChange s x d).conveyor = s.conveyor ∧
      (programStationChange s x d).advance = s.advance ∧
      (programStationChange s x d).inputs = s.inputs ∧
      (programStationChange s x d).supply = s.supply ∧
      (programStationChange s x d).store = s.store ∧
      (programStationChange s x d).freeCount = s.freeCount ∧
      (programStationChange s x d).pending = s.pending := by
  simp only [programStationChange]
  (repeat' split) <;> simp

@[simp] theorem obstacleStationChange_frame (s : State) (x : Nat) (d : Direction) :
    (obstacleStationChange s x d).travel = s.travel ∧
      (obstacleStationChange s x d).scanner = s.scanner ∧
      (obstacleStationChange s x d).program = s.program ∧
      (obstacleStationChange s x d).grade = s.grade ∧
      (obstacleStationChange s x d).legs = s.legs ∧
      (obstacleStationChange s x d).conveyor = s.conveyor ∧
      (obstacleStationChange s x d).advance = s.advance ∧
      (obstacleStationChange s x d).inputs = s.inputs ∧
      (obstacleStationChange s x d).supply = s.supply ∧
      (obstacleStationChange s x d).notices = s.notices ∧
      (obstacleStationChange s x d).link = s.link ∧
      (obstacleStationChange s x d).store = s.store ∧
      (obstacleStationChange s x d).handed = s.handed ∧
      (obstacleStationChange s x d).freeCount = s.freeCount ∧
      (obstacleStationChange s x d).pending = s.pending := by
  refine ⟨rfl, rfl, rfl, rfl, rfl, rfl, rfl, rfl, rfl, rfl, rfl, rfl, rfl, rfl, rfl⟩

@[simp] theorem countDistance_frame (s : State) :
    (countDistance s).scanner = s.scanner ∧
      (countDistance s).program = s.program ∧
      (countDistance s).obstacles = s.obstacles ∧
      (countDistance s).grade = s.grade ∧
      (countDistance s).legs = s.legs ∧
      (countDistance s).conveyor = s.conveyor ∧
      (countDistance s).advance = s.advance ∧
      (countDistance s).inputs = s.inputs ∧
      (countDistance s).supply = s.supply ∧
      (countDistance s).notices = s.notices ∧
      (countDistance s).link = s.link ∧
      (countDistance s).store = s.store ∧
      (countDistance s).freeCount = s.freeCount ∧
      (countDistance s).pending = s.pending := by
  simp only [countDistance]
  (repeat' split) <;> simp

@[simp] theorem stationMoved_frame (s : State) (x : Nat) (d : Direction) :
    (stationMoved s x d).scanner = s.scanner ∧
      (stationMoved s x d).grade = s.grade ∧
      (stationMoved s x d).legs = s.legs ∧
      (stationMoved s x d).conveyor = s.conveyor ∧
      (stationMoved s x d).advance = s.advance ∧
      (stationMoved s x d).inputs = s.inputs ∧
      (stationMoved s x d).supply = s.supply ∧
      (stationMoved s x d).store = s.store ∧
      (stationMoved s x d).freeCount = s.freeCount ∧
      (stationMoved s x d).pending = s.pending := by
  simp [stationMoved]

@[simp] theorem countPulse_frame (s : State) (d : Direction) :
    (countPulse s d).scanner = s.scanner ∧
      (countPulse s d).grade = s.grade ∧
      (countPulse s d).legs = s.legs ∧
      (countPulse s d).conveyor = s.conveyor ∧
      (countPulse s d).advance = s.advance ∧
      (countPulse s d).inputs = s.inputs ∧
      (countPulse s d).supply = s.supply ∧
      (countPulse s d).store = s.store ∧
      (countPulse s d).freeCount = s.freeCount ∧
      (countPulse s d).pending = s.pending := by
  simp only [countPulse]
  (repeat' split) <;> simp

@[simp] theorem takeBreachMark_frame (s : State) (i : Nat) (d : Side) (m : Int) (b : Nat) :
    (takeBreachMark s i d m b).travel = s.travel ∧
      (takeBreachMark s i d m b).scanner = s.scanner ∧
      (takeBreachMark s i d m b).program = s.program ∧
      (takeBreachMark s i d m b).grade = s.grade ∧
      (takeBreachMark s i d m b).legs = s.legs ∧
      (takeBreachMark s i d m b).conveyor = s.conveyor ∧
      (takeBreachMark s i d m b).advance = s.advance ∧
      (takeBreachMark s i d m b).inputs = s.inputs ∧
      (takeBreachMark s i d m b).supply = s.supply ∧
      (takeBreachMark s i d m b).store = s.store ∧
      (takeBreachMark s i d m b).freeCount = s.freeCount ∧
      (takeBreachMark s i d m b).pending = s.pending := by
  simp only [takeBreachMark]
  (repeat' split) <;> simp

@[simp] theorem evaluateBelt_frame (s : State) :
    (evaluateBelt s).travel = s.travel ∧
      (evaluateBelt s).scanner = s.scanner ∧
      (evaluateBelt s).program = s.program ∧
      (evaluateBelt s).obstacles = s.obstacles ∧
      (evaluateBelt s).grade = s.grade ∧
      (evaluateBelt s).legs = s.legs ∧
      (evaluateBelt s).advance = s.advance ∧
      (evaluateBelt s).inputs = s.inputs ∧
      (evaluateBelt s).supply = s.supply ∧
      (evaluateBelt s).notices = s.notices ∧
      (evaluateBelt s).link = s.link ∧
      (evaluateBelt s).store = s.store ∧
      (evaluateBelt s).handed = s.handed ∧
      (evaluateBelt s).freeCount = s.freeCount ∧
      (evaluateBelt s).pending = s.pending := by
  refine ⟨rfl, rfl, rfl, rfl, rfl, rfl, rfl, rfl, rfl, rfl, rfl, rfl, rfl, rfl, rfl⟩

@[simp] theorem checkHousing_frame (s : State) :
    (checkHousing s).travel = s.travel ∧
      (checkHousing s).scanner = s.scanner ∧
      (checkHousing s).program = s.program ∧
      (checkHousing s).obstacles = s.obstacles ∧
      (checkHousing s).grade = s.grade ∧
      (checkHousing s).legs = s.legs ∧
      (checkHousing s).advance = s.advance ∧
      (checkHousing s).inputs = s.inputs ∧
      (checkHousing s).supply = s.supply ∧
      (checkHousing s).store = s.store ∧
      (checkHousing s).freeCount = s.freeCount ∧
      (checkHousing s).pending = s.pending := by
  simp only [checkHousing]
  (repeat' split) <;> simp

@[simp] theorem truckChecks_frame (s : State) :
    (truckChecks s).travel = s.travel ∧
      (truckChecks s).scanner = s.scanner ∧
      (truckChecks s).program = s.program ∧
      (truckChecks s).obstacles = s.obstacles ∧
      (truckChecks s).grade = s.grade ∧
      (truckChecks s).legs = s.legs ∧
      (truckChecks s).advance = s.advance ∧
      (truckChecks s).inputs = s.inputs ∧
      (truckChecks s).supply = s.supply ∧
      (truckChecks s).notices = s.notices ∧
      (truckChecks s).link = s.link ∧
      (truckChecks s).store = s.store ∧
      (truckChecks s).handed = s.handed ∧
      (truckChecks s).freeCount = s.freeCount ∧
      (truckChecks s).pending = s.pending := by
  simp only [truckChecks]
  (repeat' split) <;> simp

@[simp] theorem takeCutReport_frame (s : State) (r : CutReport) :
    (takeCutReport s r).travel = s.travel ∧
      (takeCutReport s r).scanner = s.scanner ∧
      (takeCutReport s r).program = s.program ∧
      (takeCutReport s r).obstacles = s.obstacles ∧
      (takeCutReport s r).grade = s.grade ∧
      (takeCutReport s r).legs = s.legs ∧
      (takeCutReport s r).advance = s.advance ∧
      (takeCutReport s r).inputs = s.inputs ∧
      (takeCutReport s r).supply = s.supply ∧
      (takeCutReport s r).store = s.store ∧
      (takeCutReport s r).pending = s.pending := by
  have h : ∀ t : State, t.travel = s.travel ∧ t.scanner = s.scanner ∧ t.program = s.program ∧ t.obstacles = s.obstacles ∧ t.grade = s.grade ∧ t.legs = s.legs ∧ t.advance = s.advance ∧ t.inputs = s.inputs ∧ t.supply = s.supply ∧ t.store = s.store ∧ t.pending = s.pending →
      (evaluateBelt (checkHousing t)).travel = s.travel ∧ (evaluateBelt (checkHousing t)).scanner = s.scanner ∧ (evaluateBelt (checkHousing t)).program = s.program ∧ (evaluateBelt (checkHousing t)).obstacles = s.obstacles ∧ (evaluateBelt (checkHousing t)).grade = s.grade ∧ (evaluateBelt (checkHousing t)).legs = s.legs ∧ (evaluateBelt (checkHousing t)).advance = s.advance ∧ (evaluateBelt (checkHousing t)).inputs = s.inputs ∧ (evaluateBelt (checkHousing t)).supply = s.supply ∧ (evaluateBelt (checkHousing t)).store = s.store ∧ (evaluateBelt (checkHousing t)).pending = s.pending := by
    intro t ht
    simp [ht]
  unfold takeCutReport
  exact h _ (by simp)

@[simp] theorem endTruck_frame (s : State) (k : Truck) :
    (endTruck s k).travel = s.travel ∧
      (endTruck s k).scanner = s.scanner ∧
      (endTruck s k).program = s.program ∧
      (endTruck s k).obstacles = s.obstacles ∧
      (endTruck s k).grade = s.grade ∧
      (endTruck s k).legs = s.legs ∧
      (endTruck s k).advance = s.advance ∧
      (endTruck s k).inputs = s.inputs ∧
      (endTruck s k).supply = s.supply ∧
      (endTruck s k).store = s.store ∧
      (endTruck s k).handed = s.handed ∧
      (endTruck s k).freeCount = s.freeCount ∧
      (endTruck s k).pending = s.pending := by
  simp [endTruck]

@[simp] theorem presenceChange_frame (s : State) (a : Bool) :
    (presenceChange s a).travel = s.travel ∧
      (presenceChange s a).scanner = s.scanner ∧
      (presenceChange s a).program = s.program ∧
      (presenceChange s a).obstacles = s.obstacles ∧
      (presenceChange s a).grade = s.grade ∧
      (presenceChange s a).legs = s.legs ∧
      (presenceChange s a).advance = s.advance ∧
      (presenceChange s a).inputs = s.inputs ∧
      (presenceChange s a).supply = s.supply ∧
      (presenceChange s a).store = s.store ∧
      (presenceChange s a).handed = s.handed ∧
      (presenceChange s a).freeCount = s.freeCount ∧
      (presenceChange s a).pending = s.pending := by
  simp only [presenceChange]
  (repeat' split) <;> simp

@[simp] theorem creditCarry_frame (s : State) (n : Nat) :
    (creditCarry s n).travel = s.travel ∧
      (creditCarry s n).scanner = s.scanner ∧
      (creditCarry s n).program = s.program ∧
      (creditCarry s n).obstacles = s.obstacles ∧
      (creditCarry s n).grade = s.grade ∧
      (creditCarry s n).legs = s.legs ∧
      (creditCarry s n).advance = s.advance ∧
      (creditCarry s n).inputs = s.inputs ∧
      (creditCarry s n).supply = s.supply ∧
      (creditCarry s n).notices = s.notices ∧
      (creditCarry s n).link = s.link ∧
      (creditCarry s n).store = s.store ∧
      (creditCarry s n).handed = s.handed ∧
      (creditCarry s n).pending = s.pending := by
  have h : ∀ t : State, t.travel = s.travel ∧ t.scanner = s.scanner ∧ t.program = s.program ∧ t.obstacles = s.obstacles ∧ t.grade = s.grade ∧ t.legs = s.legs ∧ t.advance = s.advance ∧ t.inputs = s.inputs ∧ t.supply = s.supply ∧ t.notices = s.notices ∧ t.link = s.link ∧ t.store = s.store ∧ t.handed = s.handed ∧ t.pending = s.pending →
      (truckChecks t).travel = s.travel ∧ (truckChecks t).scanner = s.scanner ∧ (truckChecks t).program = s.program ∧ (truckChecks t).obstacles = s.obstacles ∧ (truckChecks t).grade = s.grade ∧ (truckChecks t).legs = s.legs ∧ (truckChecks t).advance = s.advance ∧ (truckChecks t).inputs = s.inputs ∧ (truckChecks t).supply = s.supply ∧ (truckChecks t).notices = s.notices ∧ (truckChecks t).link = s.link ∧ (truckChecks t).store = s.store ∧ (truckChecks t).handed = s.handed ∧ (truckChecks t).pending = s.pending := by
    intro t ht
    simp [ht]
  unfold creditCarry
  dsimp only
  split
  · exact h _ (by simp)
  · simp

@[simp] theorem stallCheck_frame (s : State) :
    (stallCheck s).travel = s.travel ∧
      (stallCheck s).scanner = s.scanner ∧
      (stallCheck s).program = s.program ∧
      (stallCheck s).obstacles = s.obstacles ∧
      (stallCheck s).grade = s.grade ∧
      (stallCheck s).legs = s.legs ∧
      (stallCheck s).advance = s.advance ∧
      (stallCheck s).inputs = s.inputs ∧
      (stallCheck s).supply = s.supply ∧
      (stallCheck s).store = s.store ∧
      (stallCheck s).handed = s.handed ∧
      (stallCheck s).freeCount = s.freeCount ∧
      (stallCheck s).pending = s.pending := by
  simp only [stallCheck]
  (repeat' split) <;> simp

@[simp] theorem setWorking_frame (s : State) (p : Setup) :
    (setWorking s p).travel = s.travel ∧
      (setWorking s p).scanner = s.scanner ∧
      (setWorking s p).program = s.program ∧
      (setWorking s p).obstacles = s.obstacles ∧
      (setWorking s p).grade = s.grade ∧
      (setWorking s p).legs = s.legs ∧
      (setWorking s p).conveyor = s.conveyor ∧
      (setWorking s p).advance = s.advance ∧
      (setWorking s p).inputs = s.inputs ∧
      (setWorking s p).supply = s.supply ∧
      (setWorking s p).notices = s.notices ∧
      (setWorking s p).link = s.link ∧
      (setWorking s p).handed = s.handed ∧
      (setWorking s p).freeCount = s.freeCount ∧
      (setWorking s p).pending = s.pending := by
  refine ⟨rfl, rfl, rfl, rfl, rfl, rfl, rfl, rfl, rfl, rfl, rfl, rfl, rfl, rfl, rfl⟩

@[simp] theorem applyOutput_frame (s : State) (d : Side) (l : Leg) (u : Int) :
    (applyOutput s d l u).travel = s.travel ∧
      (applyOutput s d l u).scanner = s.scanner ∧
      (applyOutput s d l u).program = s.program ∧
      (applyOutput s d l u).obstacles = s.obstacles ∧
      (applyOutput s d l u).grade = s.grade ∧
      (applyOutput s d l u).conveyor = s.conveyor ∧
      (applyOutput s d l u).advance = s.advance ∧
      (applyOutput s d l u).inputs = s.inputs ∧
      (applyOutput s d l u).supply = s.supply ∧
      (applyOutput s d l u).notices = s.notices ∧
      (applyOutput s d l u).link = s.link ∧
      (applyOutput s d l u).store = s.store ∧
      (applyOutput s d l u).handed = s.handed ∧
      (applyOutput s d l u).freeCount = s.freeCount ∧
      (applyOutput s d l u).pending = s.pending := by
  refine ⟨rfl, rfl, rfl, rfl, rfl, rfl, rfl, rfl, rfl, rfl, rfl, rfl, rfl, rfl, rfl⟩

@[simp] theorem takeLegCommand_frame (s : State) (d : Side) (u : Int) :
    (takeLegCommand s d u).travel = s.travel ∧
      (takeLegCommand s d u).scanner = s.scanner ∧
      (takeLegCommand s d u).program = s.program ∧
      (takeLegCommand s d u).obstacles = s.obstacles ∧
      (takeLegCommand s d u).grade = s.grade ∧
      (takeLegCommand s d u).conveyor = s.conveyor ∧
      (takeLegCommand s d u).advance = s.advance ∧
      (takeLegCommand s d u).inputs = s.inputs ∧
      (takeLegCommand s d u).supply = s.supply ∧
      (takeLegCommand s d u).notices = s.notices ∧
      (takeLegCommand s d u).link = s.link ∧
      (takeLegCommand s d u).store = s.store ∧
      (takeLegCommand s d u).handed = s.handed ∧
      (takeLegCommand s d u).freeCount = s.freeCount ∧
      (takeLegCommand s d u).pending = s.pending := by
  simp only [takeLegCommand]
  (repeat' split) <;> simp

@[simp] theorem holdAutoLegs_frame (s : State) :
    (holdAutoLegs s).travel = s.travel ∧
      (holdAutoLegs s).scanner = s.scanner ∧
      (holdAutoLegs s).program = s.program ∧
      (holdAutoLegs s).obstacles = s.obstacles ∧
      (holdAutoLegs s).grade = s.grade ∧
      (holdAutoLegs s).conveyor = s.conveyor ∧
      (holdAutoLegs s).advance = s.advance ∧
      (holdAutoLegs s).inputs = s.inputs ∧
      (holdAutoLegs s).supply = s.supply ∧
      (holdAutoLegs s).notices = s.notices ∧
      (holdAutoLegs s).link = s.link ∧
      (holdAutoLegs s).store = s.store ∧
      (holdAutoLegs s).freeCount = s.freeCount ∧
      (holdAutoLegs s).pending = s.pending := by
  simp [holdAutoLegs]

@[simp] theorem holdIfDriven_frame (s : State) (d : Side) :
    (holdIfDriven s d).travel = s.travel ∧
      (holdIfDriven s d).scanner = s.scanner ∧
      (holdIfDriven s d).program = s.program ∧
      (holdIfDriven s d).obstacles = s.obstacles ∧
      (holdIfDriven s d).grade = s.grade ∧
      (holdIfDriven s d).conveyor = s.conveyor ∧
      (holdIfDriven s d).advance = s.advance ∧
      (holdIfDriven s d).inputs = s.inputs ∧
      (holdIfDriven s d).supply = s.supply ∧
      (holdIfDriven s d).notices = s.notices ∧
      (holdIfDriven s d).link = s.link ∧
      (holdIfDriven s d).store = s.store ∧
      (holdIfDriven s d).freeCount = s.freeCount ∧
      (holdIfDriven s d).pending = s.pending := by
  simp only [holdIfDriven]
  (repeat' split) <;> simp

@[simp] theorem legsStopSense_frame (s : State) :
    (legsStopSense s).travel = s.travel ∧
      (legsStopSense s).scanner = s.scanner ∧
      (legsStopSense s).program = s.program ∧
      (legsStopSense s).obstacles = s.obstacles ∧
      (legsStopSense s).grade = s.grade ∧
      (legsStopSense s).conveyor = s.conveyor ∧
      (legsStopSense s).advance = s.advance ∧
      (legsStopSense s).inputs = s.inputs ∧
      (legsStopSense s).supply = s.supply ∧
      (legsStopSense s).notices = s.notices ∧
      (legsStopSense s).link = s.link ∧
      (legsStopSense s).store = s.store ∧
      (legsStopSense s).freeCount = s.freeCount ∧
      (legsStopSense s).pending = s.pending := by
  simp [legsStopSense]

@[simp] theorem legsSupplyFall_frame (s : State) :
    (legsSupplyFall s).travel = s.travel ∧
      (legsSupplyFall s).scanner = s.scanner ∧
      (legsSupplyFall s).program = s.program ∧
      (legsSupplyFall s).obstacles = s.obstacles ∧
      (legsSupplyFall s).grade = s.grade ∧
      (legsSupplyFall s).conveyor = s.conveyor ∧
      (legsSupplyFall s).advance = s.advance ∧
      (legsSupplyFall s).inputs = s.inputs ∧
      (legsSupplyFall s).supply = s.supply ∧
      (legsSupplyFall s).notices = s.notices ∧
      (legsSupplyFall s).link = s.link ∧
      (legsSupplyFall s).store = s.store ∧
      (legsSupplyFall s).freeCount = s.freeCount ∧
      (legsSupplyFall s).pending = s.pending := by
  simp [legsSupplyFall]

@[simp] theorem limitChange_frame (s : State) (d : Side) (w : LimitSwitch) (a : Bool) :
    (limitChange s d w a).travel = s.travel ∧
      (limitChange s d w a).scanner = s.scanner ∧
      (limitChange s d w a).program = s.program ∧
      (limitChange s d w a).obstacles = s.obstacles ∧
      (limitChange s d w a).grade = s.grade ∧
      (limitChange s d w a).conveyor = s.conveyor ∧
      (limitChange s d w a).advance = s.advance ∧
      (limitChange s d w a).inputs = s.inputs ∧
      (limitChange s d w a).supply = s.supply ∧
      (limitChange s d w a).store = s.store ∧
      (limitChange s d w a).handed = s.handed ∧
      (limitChange s d w a).freeCount = s.freeCount ∧
      (limitChange s d w a).pending = s.pending := by
  simp only [limitChange]
  (repeat' split) <;> simp

@[simp] theorem recomputeCoils_frame (s : State) :
    (recomputeCoils s).travel = s.travel ∧
      (recomputeCoils s).scanner = s.scanner ∧
      (recomputeCoils s).program = s.program ∧
      (recomputeCoils s).obstacles = s.obstacles ∧
      (recomputeCoils s).grade = s.grade ∧
      (recomputeCoils s).conveyor = s.conveyor ∧
      (recomputeCoils s).advance = s.advance ∧
      (recomputeCoils s).inputs = s.inputs ∧
      (recomputeCoils s).supply = s.supply ∧
      (recomputeCoils s).notices = s.notices ∧
      (recomputeCoils s).link = s.link ∧
      (recomputeCoils s).store = s.store ∧
      (recomputeCoils s).handed = s.handed ∧
      (recomputeCoils s).freeCount = s.freeCount ∧
      (recomputeCoils s).pending = s.pending := by
  refine ⟨rfl, rfl, rfl, rfl, rfl, rfl, rfl, rfl, rfl, rfl, rfl, rfl, rfl, rfl, rfl⟩

@[simp] theorem stopSenseActive_frame (s : State) :
    (stopSenseActive s).travel = s.travel ∧
      (stopSenseActive s).scanner = s.scanner ∧
      (stopSenseActive s).program = s.program ∧
      (stopSenseActive s).obstacles = s.obstacles ∧
      (stopSenseActive s).grade = s.grade ∧
      (stopSenseActive s).advance = s.advance ∧
      (stopSenseActive s).inputs = s.inputs ∧
      (stopSenseActive s).supply = s.supply ∧
      (stopSenseActive s).store = s.store ∧
      (stopSenseActive s).freeCount = s.freeCount ∧
      (stopSenseActive s).pending = s.pending := by
  simp [stopSenseActive]

@[simp] theorem stopSenseRelease_frame (s : State) :
    (stopSenseRelease s).travel = s.travel ∧
      (stopSenseRelease s).scanner = s.scanner ∧
      (stopSenseRelease s).program = s.program ∧
      (stopSenseRelease s).obstacles = s.obstacles ∧
      (stopSenseRelease s).grade = s.grade ∧
      (stopSenseRelease s).advance = s.advance ∧
      (stopSenseRelease s).inputs = s.inputs ∧
      (stopSenseRelease s).supply = s.supply ∧
      (stopSenseRelease s).notices = s.notices ∧
      (stopSenseRelease s).link = s.link ∧
      (stopSenseRelease s).store = s.store ∧
      (stopSenseRelease s).freeCount = s.freeCount ∧
      (stopSenseRelease s).pending = s.pending := by
  simp [stopSenseRelease]

@[simp] theorem takeChange_frame (s : State) (c : InputChange) :
    (takeChange s c).travel = s.travel ∧
      (takeChange s c).scanner = s.scanner ∧
      (takeChange s c).program = s.program ∧
      (takeChange s c).obstacles = s.obstacles ∧
      (takeChange s c).grade = s.grade ∧
      (takeChange s c).advance = s.advance ∧
      (takeChange s c).inputs = s.inputs ∧
      (takeChange s c).supply = s.supply ∧
      (takeChange s c).store = s.store ∧
      (takeChange s c).freeCount = s.freeCount ∧
      (takeChange s c).pending = s.pending := by
  simp only [takeChange]
  (repeat' split) <;> simp

@[simp] theorem supplyFall_frame (s : State) (m : Nat) :
    (supplyFall s m).travel = s.travel ∧
      (supplyFall s m).scanner = s.scanner ∧
      (supplyFall s m).program = s.program ∧
      (supplyFall s m).obstacles = s.obstacles ∧
      (supplyFall s m).grade = s.grade ∧
      (supplyFall s m).advance = s.advance ∧
      (supplyFall s m).inputs = s.inputs ∧
      (supplyFall s m).supply = s.supply ∧
      (supplyFall s m).store = s.store ∧
      (supplyFall s m).freeCount = s.freeCount ∧
      (supplyFall s m).pending = s.pending := by
  simp [supplyFall]

@[simp] theorem supplyRise_frame (s : State) :
    (supplyRise s).travel = s.travel ∧
      (supplyRise s).scanner = s.scanner ∧
      (supplyRise s).program = s.program ∧
      (supplyRise s).obstacles = s.obstacles ∧
      (supplyRise s).grade = s.grade ∧
      (supplyRise s).advance = s.advance ∧
      (supplyRise s).inputs = s.inputs ∧
      (supplyRise s).supply = s.supply ∧
      (supplyRise s).notices = s.notices ∧
      (supplyRise s).link = s.link ∧
      (supplyRise s).store = s.store ∧
      (supplyRise s).freeCount = s.freeCount ∧
      (supplyRise s).pending = s.pending := by
  simp [supplyRise]

@[simp] theorem supplyGood_frame (s : State) :
    (supplyGood s).travel = s.travel ∧
      (supplyGood s).scanner = s.scanner ∧
      (supplyGood s).program = s.program ∧
      (supplyGood s).obstacles = s.obstacles ∧
      (supplyGood s).grade = s.grade ∧
      (supplyGood s).legs = s.legs ∧
      (supplyGood s).conveyor = s.conveyor ∧
      (supplyGood s).advance = s.advance ∧
      (supplyGood s).inputs = s.inputs ∧
      (supplyGood s).supply = s.supply ∧
      (supplyGood s).notices = s.notices ∧
      (supplyGood s).link = s.link ∧
      (supplyGood s).handed = s.handed ∧
      (supplyGood s).freeCount = s.freeCount ∧
      (supplyGood s).pending = s.pending := by
  simp only [supplyGood]
  (repeat' split) <;> simp

end Sys2Proof.Machine
end

