-- ==== Sys2Proof/Laws/Step.lean ====
section
/-! SUPPORT. What the scanner's and the control step's operations leave unchanged, one lemma per operation and block. -/

namespace Sys2Proof.Machine

open Sys2Proof

@[simp] theorem setGradeSide_frame (s : State) (d : Side) (g : GradeSide) :
    (setGradeSide s d g).travel = s.travel ∧
      (setGradeSide s d g).scanner = s.scanner ∧
      (setGradeSide s d g).program = s.program ∧
      (setGradeSide s d g).obstacles = s.obstacles ∧
      (setGradeSide s d g).legs = s.legs ∧
      (setGradeSide s d g).conveyor = s.conveyor ∧
      (setGradeSide s d g).advance = s.advance ∧
      (setGradeSide s d g).inputs = s.inputs ∧
      (setGradeSide s d g).supply = s.supply ∧
      (setGradeSide s d g).notices = s.notices ∧
      (setGradeSide s d g).link = s.link ∧
      (setGradeSide s d g).store = s.store ∧
      (setGradeSide s d g).handed = s.handed ∧
      (setGradeSide s d g).freeCount = s.freeCount ∧
      (setGradeSide s d g).pending = s.pending := by
  refine ⟨rfl, rfl, rfl, rfl, rfl, rfl, rfl, rfl, rfl, rfl, rfl, rfl, rfl, rfl, rfl⟩

@[simp] theorem recordSide_frame (s : State) (d : Side) (w : SideWork) :
    (recordSide s d w).travel = s.travel ∧
      (recordSide s d w).scanner = s.scanner ∧
      (recordSide s d w).program = s.program ∧
      (recordSide s d w).obstacles = s.obstacles ∧
      (recordSide s d w).legs = s.legs ∧
      (recordSide s d w).conveyor = s.conveyor ∧
      (recordSide s d w).advance = s.advance ∧
      (recordSide s d w).inputs = s.inputs ∧
      (recordSide s d w).supply = s.supply ∧
      (recordSide s d w).notices = s.notices ∧
      (recordSide s d w).link = s.link ∧
      (recordSide s d w).store = s.store ∧
      (recordSide s d w).handed = s.handed ∧
      (recordSide s d w).freeCount = s.freeCount ∧
      (recordSide s d w).pending = s.pending := by
  refine ⟨rfl, rfl, rfl, rfl, rfl, rfl, rfl, rfl, rfl, rfl, rfl, rfl, rfl, rfl, rfl⟩

@[simp] theorem noteSwitch_frame (s : State) (x : Nat) (d : Side) (u : Option Channel) :
    (noteSwitch s x d u).travel = s.travel ∧
      (noteSwitch s x d u).scanner = s.scanner ∧
      (noteSwitch s x d u).program = s.program ∧
      (noteSwitch s x d u).obstacles = s.obstacles ∧
      (noteSwitch s x d u).grade = s.grade ∧
      (noteSwitch s x d u).legs = s.legs ∧
      (noteSwitch s x d u).conveyor = s.conveyor ∧
      (noteSwitch s x d u).advance = s.advance ∧
      (noteSwitch s x d u).inputs = s.inputs ∧
      (noteSwitch s x d u).supply = s.supply ∧
      (noteSwitch s x d u).store = s.store ∧
      (noteSwitch s x d u).handed = s.handed ∧
      (noteSwitch s x d u).freeCount = s.freeCount ∧
      (noteSwitch s x d u).pending = s.pending := by
  simp only [noteSwitch]
  (repeat' split) <;> simp

@[simp] theorem noteSwitches_frame (s : State) (c : Completion) :
    (noteSwitches s c).travel = s.travel ∧
      (noteSwitches s c).scanner = s.scanner ∧
      (noteSwitches s c).program = s.program ∧
      (noteSwitches s c).obstacles = s.obstacles ∧
      (noteSwitches s c).grade = s.grade ∧
      (noteSwitches s c).legs = s.legs ∧
      (noteSwitches s c).conveyor = s.conveyor ∧
      (noteSwitches s c).advance = s.advance ∧
      (noteSwitches s c).inputs = s.inputs ∧
      (noteSwitches s c).supply = s.supply ∧
      (noteSwitches s c).store = s.store ∧
      (noteSwitches s c).handed = s.handed ∧
      (noteSwitches s c).freeCount = s.freeCount ∧
      (noteSwitches s c).pending = s.pending := by
  simp [noteSwitches]

@[simp] theorem checkBreach_frame (s : State) (i : BreachItem) (d : Side) (m : Option Int) :
    (checkBreach s i d m).travel = s.travel ∧
      (checkBreach s i d m).scanner = s.scanner ∧
      (checkBreach s i d m).program = s.program ∧
      (checkBreach s i d m).obstacles = s.obstacles ∧
      (checkBreach s i d m).grade = s.grade ∧
      (checkBreach s i d m).legs = s.legs ∧
      (checkBreach s i d m).conveyor = s.conveyor ∧
      (checkBreach s i d m).advance = s.advance ∧
      (checkBreach s i d m).inputs = s.inputs ∧
      (checkBreach s i d m).supply = s.supply ∧
      (checkBreach s i d m).notices = s.notices ∧
      (checkBreach s i d m).link = s.link ∧
      (checkBreach s i d m).store = s.store ∧
      (checkBreach s i d m).freeCount = s.freeCount ∧
      (checkBreach s i d m).pending = s.pending := by
  simp only [checkBreach]
  (repeat' split) <;> simp

@[simp] theorem setRefHold_frame (s : State) (d : Side) (b : Bool) :
    (setRefHold s d b).travel = s.travel ∧
      (setRefHold s d b).scanner = s.scanner ∧
      (setRefHold s d b).program = s.program ∧
      (setRefHold s d b).obstacles = s.obstacles ∧
      (setRefHold s d b).legs = s.legs ∧
      (setRefHold s d b).conveyor = s.conveyor ∧
      (setRefHold s d b).advance = s.advance ∧
      (setRefHold s d b).inputs = s.inputs ∧
      (setRefHold s d b).supply = s.supply ∧
      (setRefHold s d b).notices = s.notices ∧
      (setRefHold s d b).link = s.link ∧
      (setRefHold s d b).store = s.store ∧
      (setRefHold s d b).handed = s.handed ∧
      (setRefHold s d b).freeCount = s.freeCount ∧
      (setRefHold s d b).pending = s.pending := by
  refine ⟨rfl, rfl, rfl, rfl, rfl, rfl, rfl, rfl, rfl, rfl, rfl, rfl, rfl, rfl, rfl⟩

@[simp] theorem noteLoss_frame (s : State) (x : Nat) (d : Side) (w : SideWork) (c : LostCause) :
    (noteLoss s x d w c).travel = s.travel ∧
      (noteLoss s x d w c).scanner = s.scanner ∧
      (noteLoss s x d w c).program = s.program ∧
      (noteLoss s x d w c).obstacles = s.obstacles ∧
      (noteLoss s x d w c).legs = s.legs ∧
      (noteLoss s x d w c).conveyor = s.conveyor ∧
      (noteLoss s x d w c).advance = s.advance ∧
      (noteLoss s x d w c).inputs = s.inputs ∧
      (noteLoss s x d w c).supply = s.supply ∧
      (noteLoss s x d w c).store = s.store ∧
      (noteLoss s x d w c).freeCount = s.freeCount ∧
      (noteLoss s x d w c).pending = s.pending := by
  simp only [noteLoss]
  (repeat' split) <;> simp

@[simp] theorem clearRefHold_frame (s : State) (d : Side) :
    (clearRefHold s d).travel = s.travel ∧
      (clearRefHold s d).scanner = s.scanner ∧
      (clearRefHold s d).program = s.program ∧
      (clearRefHold s d).obstacles = s.obstacles ∧
      (clearRefHold s d).legs = s.legs ∧
      (clearRefHold s d).conveyor = s.conveyor ∧
      (clearRefHold s d).advance = s.advance ∧
      (clearRefHold s d).inputs = s.inputs ∧
      (clearRefHold s d).supply = s.supply ∧
      (clearRefHold s d).notices = s.notices ∧
      (clearRefHold s d).link = s.link ∧
      (clearRefHold s d).store = s.store ∧
      (clearRefHold s d).freeCount = s.freeCount ∧
      (clearRefHold s d).pending = s.pending := by
  simp only [clearRefHold]
  (repeat' split) <;> simp

@[simp] theorem noteReturn_frame (s : State) (d : Side) (w : SideWork) :
    (noteReturn s d w).travel = s.travel ∧
      (noteReturn s d w).scanner = s.scanner ∧
      (noteReturn s d w).program = s.program ∧
      (noteReturn s d w).obstacles = s.obstacles ∧
      (noteReturn s d w).legs = s.legs ∧
      (noteReturn s d w).conveyor = s.conveyor ∧
      (noteReturn s d w).advance = s.advance ∧
      (noteReturn s d w).inputs = s.inputs ∧
      (noteReturn s d w).supply = s.supply ∧
      (noteReturn s d w).notices = s.notices ∧
      (noteReturn s d w).link = s.link ∧
      (noteReturn s d w).store = s.store ∧
      (noteReturn s d w).freeCount = s.freeCount ∧
      (noteReturn s d w).pending = s.pending := by
  simp only [noteReturn]
  (repeat' split) <;> simp

@[simp] theorem handCommand_frame (s : State) (d : Side) (w : SideWork) :
    (handCommand s d w).travel = s.travel ∧
      (handCommand s d w).scanner = s.scanner ∧
      (handCommand s d w).program = s.program ∧
      (handCommand s d w).obstacles = s.obstacles ∧
      (handCommand s d w).grade = s.grade ∧
      (handCommand s d w).legs = s.legs ∧
      (handCommand s d w).conveyor = s.conveyor ∧
      (handCommand s d w).advance = s.advance ∧
      (handCommand s d w).inputs = s.inputs ∧
      (handCommand s d w).supply = s.supply ∧
      (handCommand s d w).notices = s.notices ∧
      (handCommand s d w).link = s.link ∧
      (handCommand s d w).store = s.store ∧
      (handCommand s d w).freeCount = s.freeCount ∧
      (handCommand s d w).pending = s.pending := by
  simp only [handCommand]
  (repeat' split) <;> simp

@[simp] theorem settleRamp_frame (s : State) (x : Nat) (q : Sides (Option Nat)) :
    (settleRamp s x q).travel = s.travel ∧
      (settleRamp s x q).scanner = s.scanner ∧
      (settleRamp s x q).program = s.program ∧
      (settleRamp s x q).obstacles = s.obstacles ∧
      (settleRamp s x q).legs = s.legs ∧
      (settleRamp s x q).conveyor = s.conveyor ∧
      (settleRamp s x q).advance = s.advance ∧
      (settleRamp s x q).inputs = s.inputs ∧
      (settleRamp s x q).supply = s.supply ∧
      (settleRamp s x q).store = s.store ∧
      (settleRamp s x q).freeCount = s.freeCount ∧
      (settleRamp s x q).pending = s.pending := by
  simp only [settleRamp]
  (repeat' split) <;> simp

@[simp] theorem settleSides_frame (s : State) (c : Completion) (w : Sides SideWork) :
    (settleSides s c w).travel = s.travel ∧
      (settleSides s c w).scanner = s.scanner ∧
      (settleSides s c w).program = s.program ∧
      (settleSides s c w).obstacles = s.obstacles ∧
      (settleSides s c w).legs = s.legs ∧
      (settleSides s c w).conveyor = s.conveyor ∧
      (settleSides s c w).advance = s.advance ∧
      (settleSides s c w).inputs = s.inputs ∧
      (settleSides s c w).supply = s.supply ∧
      (settleSides s c w).store = s.store ∧
      (settleSides s c w).freeCount = s.freeCount ∧
      (settleSides s c w).pending = s.pending := by
  simp [settleSides]

@[simp] theorem reportCut_frame (s : State) (c : Completion) (l r : Option Int) :
    (reportCut s c l r).travel = s.travel ∧
      (reportCut s c l r).scanner = s.scanner ∧
      (reportCut s c l r).program = s.program ∧
      (reportCut s c l r).obstacles = s.obstacles ∧
      (reportCut s c l r).legs = s.legs ∧
      (reportCut s c l r).conveyor = s.conveyor ∧
      (reportCut s c l r).advance = s.advance ∧
      (reportCut s c l r).inputs = s.inputs ∧
      (reportCut s c l r).supply = s.supply ∧
      (reportCut s c l r).notices = s.notices ∧
      (reportCut s c l r).link = s.link ∧
      (reportCut s c l r).store = s.store ∧
      (reportCut s c l r).freeCount = s.freeCount ∧
      (reportCut s c l r).pending = s.pending := by
  refine ⟨rfl, rfl, rfl, rfl, rfl, rfl, rfl, rfl, rfl, rfl, rfl, rfl, rfl, rfl⟩

@[simp] theorem checkBreaches_frame (s : State) (b : List BreachItem) (l r : Option Int) :
    (checkBreaches s b l r).travel = s.travel ∧
      (checkBreaches s b l r).scanner = s.scanner ∧
      (checkBreaches s b l r).program = s.program ∧
      (checkBreaches s b l r).obstacles = s.obstacles ∧
      (checkBreaches s b l r).grade = s.grade ∧
      (checkBreaches s b l r).legs = s.legs ∧
      (checkBreaches s b l r).conveyor = s.conveyor ∧
      (checkBreaches s b l r).advance = s.advance ∧
      (checkBreaches s b l r).inputs = s.inputs ∧
      (checkBreaches s b l r).supply = s.supply ∧
      (checkBreaches s b l r).notices = s.notices ∧
      (checkBreaches s b l r).link = s.link ∧
      (checkBreaches s b l r).store = s.store ∧
      (checkBreaches s b l r).freeCount = s.freeCount ∧
      (checkBreaches s b l r).pending = s.pending := by
  unfold checkBreaches
  induction b generalizing s with
  | nil => simp
  | cons i b ih =>
    simp only [List.foldl_cons]
    simpa using ih (checkBreach (checkBreach s i .left l) i .right r)

@[simp] theorem postUnsampled_frame (s : State) (x : Nat) (o : List Obstacle) :
    (postUnsampled s x o).travel = s.travel ∧
      (postUnsampled s x o).scanner = s.scanner ∧
      (postUnsampled s x o).program = s.program ∧
      (postUnsampled s x o).obstacles = s.obstacles ∧
      (postUnsampled s x o).grade = s.grade ∧
      (postUnsampled s x o).legs = s.legs ∧
      (postUnsampled s x o).conveyor = s.conveyor ∧
      (postUnsampled s x o).advance = s.advance ∧
      (postUnsampled s x o).inputs = s.inputs ∧
      (postUnsampled s x o).supply = s.supply ∧
      (postUnsampled s x o).store = s.store ∧
      (postUnsampled s x o).handed = s.handed ∧
      (postUnsampled s x o).freeCount = s.freeCount ∧
      (postUnsampled s x o).pending = s.pending := by
  unfold postUnsampled
  induction o generalizing s with
  | nil => simp
  | cons i o ih =>
    simp only [List.foldl_cons]
    split
    · simpa using ih (post s .obstacleUnsampled (.obstacleUnsampled i.id i.start i.endStation x))
    · exact ih s

@[simp] theorem askEnvelope_frame (s : State) (q : Question) :
    (askEnvelope s q).1.travel = s.travel ∧
      (askEnvelope s q).1.scanner = s.scanner ∧
      (askEnvelope s q).1.program = s.program ∧
      (askEnvelope s q).1.grade = s.grade ∧
      (askEnvelope s q).1.legs = s.legs ∧
      (askEnvelope s q).1.conveyor = s.conveyor ∧
      (askEnvelope s q).1.advance = s.advance ∧
      (askEnvelope s q).1.inputs = s.inputs ∧
      (askEnvelope s q).1.supply = s.supply ∧
      (askEnvelope s q).1.store = s.store ∧
      (askEnvelope s q).1.handed = s.handed ∧
      (askEnvelope s q).1.freeCount = s.freeCount ∧
      (askEnvelope s q).1.pending = s.pending := by
  simp [askEnvelope]

@[simp] theorem controlStep_frame (s : State) (c : Completion) :
    (controlStep s c).travel = s.travel ∧
      (controlStep s c).scanner = s.scanner ∧
      (controlStep s c).program = s.program ∧
      (controlStep s c).legs = s.legs ∧
      (controlStep s c).conveyor = s.conveyor ∧
      (controlStep s c).advance = s.advance ∧
      (controlStep s c).inputs = s.inputs ∧
      (controlStep s c).supply = s.supply ∧
      (controlStep s c).store = s.store ∧
      (controlStep s c).freeCount = s.freeCount ∧
      (controlStep s c).pending = s.pending := by
  simp [controlStep]

@[simp] theorem setRecord_frame (s : State) (c : Channel) (r : ChannelRecord) :
    (setRecord s c r).travel = s.travel ∧
      (setRecord s c r).program = s.program ∧
      (setRecord s c r).obstacles = s.obstacles ∧
      (setRecord s c r).grade = s.grade ∧
      (setRecord s c r).legs = s.legs ∧
      (setRecord s c r).conveyor = s.conveyor ∧
      (setRecord s c r).advance = s.advance ∧
      (setRecord s c r).inputs = s.inputs ∧
      (setRecord s c r).supply = s.supply ∧
      (setRecord s c r).notices = s.notices ∧
      (setRecord s c r).link = s.link ∧
      (setRecord s c r).store = s.store ∧
      (setRecord s c r).handed = s.handed ∧
      (setRecord s c r).freeCount = s.freeCount ∧
      (setRecord s c r).pending = s.pending := by
  refine ⟨rfl, rfl, rfl, rfl, rfl, rfl, rfl, rfl, rfl, rfl, rfl, rfl, rfl, rfl, rfl⟩

@[simp] theorem processChannel_frame (s : State) (c : Channel) (r : Nat) :
    (processChannel s c r).travel = s.travel ∧
      (processChannel s c r).program = s.program ∧
      (processChannel s c r).obstacles = s.obstacles ∧
      (processChannel s c r).grade = s.grade ∧
      (processChannel s c r).legs = s.legs ∧
      (processChannel s c r).conveyor = s.conveyor ∧
      (processChannel s c r).advance = s.advance ∧
      (processChannel s c r).inputs = s.inputs ∧
      (processChannel s c r).supply = s.supply ∧
      (processChannel s c r).store = s.store ∧
      (processChannel s c r).handed = s.handed ∧
      (processChannel s c r).freeCount = s.freeCount ∧
      (processChannel s c r).pending = s.pending := by
  simp only [processChannel]
  (repeat' split) <;> simp

@[simp] theorem fillBuffer_frame (s : State) (r : Octet (BitVec 12)) :
    (fillBuffer s r).travel = s.travel ∧
      (fillBuffer s r).program = s.program ∧
      (fillBuffer s r).obstacles = s.obstacles ∧
      (fillBuffer s r).grade = s.grade ∧
      (fillBuffer s r).legs = s.legs ∧
      (fillBuffer s r).conveyor = s.conveyor ∧
      (fillBuffer s r).advance = s.advance ∧
      (fillBuffer s r).inputs = s.inputs ∧
      (fillBuffer s r).supply = s.supply ∧
      (fillBuffer s r).notices = s.notices ∧
      (fillBuffer s r).link = s.link ∧
      (fillBuffer s r).store = s.store ∧
      (fillBuffer s r).handed = s.handed ∧
      (fillBuffer s r).freeCount = s.freeCount ∧
      (fillBuffer s r).pending = s.pending := by
  refine ⟨rfl, rfl, rfl, rfl, rfl, rfl, rfl, rfl, rfl, rfl, rfl, rfl, rfl, rfl, rfl⟩

@[simp] theorem processBuffer_frame (s : State) :
    (processBuffer s).travel = s.travel ∧
      (processBuffer s).program = s.program ∧
      (processBuffer s).obstacles = s.obstacles ∧
      (processBuffer s).grade = s.grade ∧
      (processBuffer s).legs = s.legs ∧
      (processBuffer s).conveyor = s.conveyor ∧
      (processBuffer s).advance = s.advance ∧
      (processBuffer s).inputs = s.inputs ∧
      (processBuffer s).supply = s.supply ∧
      (processBuffer s).store = s.store ∧
      (processBuffer s).handed = s.handed ∧
      (processBuffer s).freeCount = s.freeCount ∧
      (processBuffer s).pending = s.pending := by
  unfold processBuffer
  generalize s.setup.scan.list.zip s.scanner.samples = q
  simp only
  induction q generalizing s with
  | nil => simp
  | cons i q ih =>
    simp only [List.foldl_cons]
    simpa using ih (processChannel s i.1 i.2.toNat)

@[simp] theorem enterSettling_frame (s : State) :
    (enterSettling s).travel = s.travel ∧
      (enterSettling s).program = s.program ∧
      (enterSettling s).obstacles = s.obstacles ∧
      (enterSettling s).grade = s.grade ∧
      (enterSettling s).legs = s.legs ∧
      (enterSettling s).conveyor = s.conveyor ∧
      (enterSettling s).advance = s.advance ∧
      (enterSettling s).inputs = s.inputs ∧
      (enterSettling s).supply = s.supply ∧
      (enterSettling s).notices = s.notices ∧
      (enterSettling s).link = s.link ∧
      (enterSettling s).store = s.store ∧
      (enterSettling s).handed = s.handed ∧
      (enterSettling s).freeCount = s.freeCount ∧
      (enterSettling s).pending = s.pending := by
  refine ⟨rfl, rfl, rfl, rfl, rfl, rfl, rfl, rfl, rfl, rfl, rfl, rfl, rfl, rfl, rfl⟩

@[simp] theorem dropTrigger_frame (s : State) (k : TriggerKind) :
    (dropTrigger s k).travel = s.travel ∧
      (dropTrigger s k).program = s.program ∧
      (dropTrigger s k).obstacles = s.obstacles ∧
      (dropTrigger s k).grade = s.grade ∧
      (dropTrigger s k).legs = s.legs ∧
      (dropTrigger s k).conveyor = s.conveyor ∧
      (dropTrigger s k).advance = s.advance ∧
      (dropTrigger s k).inputs = s.inputs ∧
      (dropTrigger s k).supply = s.supply ∧
      (dropTrigger s k).store = s.store ∧
      (dropTrigger s k).handed = s.handed ∧
      (dropTrigger s k).freeCount = s.freeCount ∧
      (dropTrigger s k).pending = s.pending := by
  simp [dropTrigger]

@[simp] theorem startScan_frame (s : State) (k : TriggerKind) (x : Nat) :
    (startScan s k x).travel = s.travel ∧
      (startScan s k x).program = s.program ∧
      (startScan s k x).obstacles = s.obstacles ∧
      (startScan s k x).grade = s.grade ∧
      (startScan s k x).legs = s.legs ∧
      (startScan s k x).conveyor = s.conveyor ∧
      (startScan s k x).advance = s.advance ∧
      (startScan s k x).inputs = s.inputs ∧
      (startScan s k x).supply = s.supply ∧
      (startScan s k x).notices = s.notices ∧
      (startScan s k x).link = s.link ∧
      (startScan s k x).store = s.store ∧
      (startScan s k x).handed = s.handed ∧
      (startScan s k x).freeCount = s.freeCount ∧
      (startScan s k x).pending = s.pending := by
  refine ⟨rfl, rfl, rfl, rfl, rfl, rfl, rfl, rfl, rfl, rfl, rfl, rfl, rfl, rfl, rfl⟩

@[simp] theorem takeTravelTrigger_frame (s : State) (k : TriggerKind) (x : Nat) :
    (takeTravelTrigger s k x).travel = s.travel ∧
      (takeTravelTrigger s k x).program = s.program ∧
      (takeTravelTrigger s k x).obstacles = s.obstacles ∧
      (takeTravelTrigger s k x).grade = s.grade ∧
      (takeTravelTrigger s k x).legs = s.legs ∧
      (takeTravelTrigger s k x).conveyor = s.conveyor ∧
      (takeTravelTrigger s k x).advance = s.advance ∧
      (takeTravelTrigger s k x).inputs = s.inputs ∧
      (takeTravelTrigger s k x).supply = s.supply ∧
      (takeTravelTrigger s k x).store = s.store ∧
      (takeTravelTrigger s k x).handed = s.handed ∧
      (takeTravelTrigger s k x).freeCount = s.freeCount ∧
      (takeTravelTrigger s k x).pending = s.pending := by
  simp only [takeTravelTrigger]
  (repeat' split) <;> simp

@[simp] theorem takeTrigger_frame (s : State) (k : TriggerKind) (x : Nat) :
    (takeTrigger s k x).travel = s.travel ∧
      (takeTrigger s k x).program = s.program ∧
      (takeTrigger s k x).obstacles = s.obstacles ∧
      (takeTrigger s k x).grade = s.grade ∧
      (takeTrigger s k x).legs = s.legs ∧
      (takeTrigger s k x).conveyor = s.conveyor ∧
      (takeTrigger s k x).advance = s.advance ∧
      (takeTrigger s k x).inputs = s.inputs ∧
      (takeTrigger s k x).supply = s.supply ∧
      (takeTrigger s k x).store = s.store ∧
      (takeTrigger s k x).handed = s.handed ∧
      (takeTrigger s k x).freeCount = s.freeCount ∧
      (takeTrigger s k x).pending = s.pending := by
  simp only [takeTrigger]
  (repeat' split) <;> simp

@[simp] theorem takeIntervalExpiry_frame (s : State) :
    (takeIntervalExpiry s).travel = s.travel ∧
      (takeIntervalExpiry s).program = s.program ∧
      (takeIntervalExpiry s).obstacles = s.obstacles ∧
      (takeIntervalExpiry s).grade = s.grade ∧
      (takeIntervalExpiry s).legs = s.legs ∧
      (takeIntervalExpiry s).conveyor = s.conveyor ∧
      (takeIntervalExpiry s).advance = s.advance ∧
      (takeIntervalExpiry s).inputs = s.inputs ∧
      (takeIntervalExpiry s).supply = s.supply ∧
      (takeIntervalExpiry s).store = s.store ∧
      (takeIntervalExpiry s).handed = s.handed ∧
      (takeIntervalExpiry s).freeCount = s.freeCount ∧
      (takeIntervalExpiry s).pending = s.pending := by
  simp only [takeIntervalExpiry]
  (repeat' split) <;> simp

@[simp] theorem enterParked_frame (s : State) :
    (enterParked s).travel = s.travel ∧
      (enterParked s).program = s.program ∧
      (enterParked s).obstacles = s.obstacles ∧
      (enterParked s).grade = s.grade ∧
      (enterParked s).legs = s.legs ∧
      (enterParked s).conveyor = s.conveyor ∧
      (enterParked s).advance = s.advance ∧
      (enterParked s).inputs = s.inputs ∧
      (enterParked s).supply = s.supply ∧
      (enterParked s).notices = s.notices ∧
      (enterParked s).link = s.link ∧
      (enterParked s).store = s.store ∧
      (enterParked s).handed = s.handed ∧
      (enterParked s).freeCount = s.freeCount ∧
      (enterParked s).pending = s.pending := by
  refine ⟨rfl, rfl, rfl, rfl, rfl, rfl, rfl, rfl, rfl, rfl, rfl, rfl, rfl, rfl, rfl⟩

@[simp] theorem park_frame (s : State) :
    (park s).travel = s.travel ∧
      (park s).program = s.program ∧
      (park s).obstacles = s.obstacles ∧
      (park s).grade = s.grade ∧
      (park s).legs = s.legs ∧
      (park s).conveyor = s.conveyor ∧
      (park s).advance = s.advance ∧
      (park s).inputs = s.inputs ∧
      (park s).supply = s.supply ∧
      (park s).notices = s.notices ∧
      (park s).link = s.link ∧
      (park s).store = s.store ∧
      (park s).handed = s.handed ∧
      (park s).freeCount = s.freeCount ∧
      (park s).pending = s.pending := by
  simp only [park]
  (repeat' split) <;> simp

@[simp] theorem leaveScanning_frame (s : State) :
    (leaveScanning s).travel = s.travel ∧
      (leaveScanning s).program = s.program ∧
      (leaveScanning s).obstacles = s.obstacles ∧
      (leaveScanning s).grade = s.grade ∧
      (leaveScanning s).legs = s.legs ∧
      (leaveScanning s).conveyor = s.conveyor ∧
      (leaveScanning s).advance = s.advance ∧
      (leaveScanning s).inputs = s.inputs ∧
      (leaveScanning s).supply = s.supply ∧
      (leaveScanning s).notices = s.notices ∧
      (leaveScanning s).link = s.link ∧
      (leaveScanning s).store = s.store ∧
      (leaveScanning s).handed = s.handed ∧
      (leaveScanning s).freeCount = s.freeCount ∧
      (leaveScanning s).pending = s.pending := by
  simp only [leaveScanning]
  (repeat' split) <;> simp

@[simp] theorem endScan_frame (s : State) (f : ScanInFlight) (r : Octet (BitVec 12)) :
    (endScan s f r).travel = s.travel ∧
      (endScan s f r).program = s.program ∧
      (endScan s f r).legs = s.legs ∧
      (endScan s f r).conveyor = s.conveyor ∧
      (endScan s f r).advance = s.advance ∧
      (endScan s f r).inputs = s.inputs ∧
      (endScan s f r).supply = s.supply ∧
      (endScan s f r).store = s.store ∧
      (endScan s f r).freeCount = s.freeCount ∧
      (endScan s f r).pending = s.pending := by
  simp [endScan]

@[simp] theorem endPass_frame (s : State) (r : Octet (BitVec 12)) :
    (endPass s r).travel = s.travel ∧
      (endPass s r).program = s.program ∧
      (endPass s r).obstacles = s.obstacles ∧
      (endPass s r).grade = s.grade ∧
      (endPass s r).legs = s.legs ∧
      (endPass s r).conveyor = s.conveyor ∧
      (endPass s r).advance = s.advance ∧
      (endPass s r).inputs = s.inputs ∧
      (endPass s r).supply = s.supply ∧
      (endPass s r).store = s.store ∧
      (endPass s r).handed = s.handed ∧
      (endPass s r).freeCount = s.freeCount ∧
      (endPass s r).pending = s.pending := by
  simp [endPass]

end Sys2Proof.Machine
end

