-- ==== Sys2Proof/Laws/Link.lean ====
section
/-! SUPPORT. What a request frame that arrives at an accepting link does, once for every request: the lemmas
that the statements about request rows cite. -/

namespace Sys2Proof.Machine

open Sys2Proof

/-- Every request has a request kind (Table 10.7). -/
theorem isRequestKind_kind (r : Request) : isRequestKind r.kind = true := by
  cases r <;> rfl

theorem countGood_link (s : State) :
    (countGood s).link =
      { s.link with counters := { s.link.counters with good := wrap16 s.link.counters.good } } := (rfl)

@[simp] theorem countGood_frame (s : State) :
    (countGood s).travel = s.travel ∧ (countGood s).scanner = s.scanner ∧ (countGood s).program = s.program ∧
      (countGood s).obstacles = s.obstacles ∧ (countGood s).grade = s.grade ∧ (countGood s).legs = s.legs ∧
      (countGood s).conveyor = s.conveyor ∧ (countGood s).advance = s.advance ∧
      (countGood s).inputs = s.inputs ∧ (countGood s).supply = s.supply ∧ (countGood s).notices = s.notices ∧
      (countGood s).store = s.store ∧ (countGood s).handed = s.handed ∧
      (countGood s).freeCount = s.freeCount ∧ (countGood s).pending = s.pending := by
  refine ⟨rfl, rfl, rfl, rfl, rfl, rfl, rfl, rfl, rfl, rfl, rfl, rfl, rfl, rfl, rfl⟩

/-- The screen passes every request kind while no store and no transfer phase is open (R174). -/
theorem screenKind_unscreened (s : State) (r : Request) (h : Unscreened s) : screenKind s r.kind = none := by
  simp [screenKind, isRequestKind_kind, h.1, h.2]

/-- A request frame at an accepting link is taken and answered by its owner (R172 to R175). -/
theorem arrive_accepting (s : State) (tag : Byte) (r : Request) (h : Accepting s) (hr : r ≠ .linkReset) :
    arrive tag r s = respond r.kind tag (takeRequest r) (countGood s) := by
  obtain ⟨⟨hp, hx, hs⟩, hu⟩ := h
  have hk : screenKind (countGood s) r.kind = none := screenKind_unscreened _ r hu
  unfold arrive arriveFrame
  simp only [hp, hx, hs, if_false]
  unfold serveRequest
  rw [hk]
  cases r <;> first | rfl | exact absurd rfl hr

/-- A reply placed: on an IDLE line at once, else in the slot (R176). -/
theorem placeReply_eq (s : State) (r : Reply) :
    placeReply s r =
      s.setLink
        { s.link with
          tx := if s.link.tx = .idle then .reply r else s.link.tx,
          slot := if s.link.tx = .idle then none else some r } := by
  unfold placeReply arbitrate
  cases ht : s.link.tx <;> simp [ht]

/-- A request whose owner leaves the link alone: its effect, and the reply placed (R175, R176). -/
theorem respond_quiet (kind tag : Byte) (take : State → State × Answer) (s : State)
    (hl : (take s).1.link = s.link) :
    respond kind tag take s =
      (take s).1.setLink
        { s.link with
          tx := if s.link.tx = .idle then .reply { kind := kind, tag := tag, answer := (take s).2 }
            else s.link.tx,
          slot := if s.link.tx = .idle then none
            else some { kind := kind, tag := tag, answer := (take s).2 } } := by
  unfold respond
  have h : ¬(s.link.tx = .idle ∧ (take s).1.link.tx ≠ .idle) := by
    rw [hl]
    exact fun h => h.2 h.1
  simp only [h, if_false]
  rw [placeReply_eq, hl]

/-- A request with a frame on the line: its effect, and the reply in the slot (R175, R176). -/
theorem respond_busy (kind tag : Byte) (take : State → State × Answer) (s : State)
    (ht : s.link.tx ≠ .idle) (ht' : (take s).1.link.tx ≠ .idle) :
    respond kind tag take s =
      (take s).1.setLink
        { (take s).1.link with slot := some { kind := kind, tag := tag, answer := (take s).2 } } := by
  unfold respond
  simp only [ht, false_and, if_false]
  unfold placeReply arbitrate
  revert ht'
  cases hx : (take s).1.link.tx <;> simp [hx]

/-- A request frame whose owner leaves the link alone, at an accepting link: the owner's effect and the link
as `answered` gives it. -/
theorem arrive_quiet (s : State) (tag : Byte) (r : Request) (h : Accepting s) (hr : r ≠ .linkReset)
    (hl : (takeRequest r (countGood s)).1.link = (countGood s).link) :
    arrive tag r s =
      (takeRequest r (countGood s)).1.setLink
        (s.link.answered (replyTo tag r (takeRequest r (countGood s)).2)) := by
  rw [arrive_accepting s tag r h hr, respond_quiet _ _ _ _ hl]
  rfl

/-- A busy line stays busy, since only the end of its frame frees it (R176). -/
theorem arbitrate_busy (s : State) (h : s.link.tx ≠ .idle) : arbitrate s = s := by
  unfold arbitrate
  revert h
  cases s.link.tx <;> simp

/-- With a frame on the line an occurrence only sets its flag and leaves its notice pending (R165, R176). -/
theorem post_busy (s : State) (c : NoticeClass) (d : NoticeDetail) (h : s.link.tx ≠ .idle) :
    post s c d = takeOccurrence s c s.travel.station d := by
  unfold post postAt
  exact arbitrate_busy _ h

/-- With one notice pending, below level 3, that notice is the most urgent (R166). -/
theorem mostUrgent_single (s : State) (c : NoticeClass) (n : Notice)
    (h : s.notices.pending = (PerClass.fill none).set c (some n)) (hl : levelOf s c < 3) :
    mostUrgent s = some c := by
  revert h hl
  cases c <;> intro h hl <;>
    simp [mostUrgent, NoticeClass.all, betterNotice, h, PerClass.get, PerClass.set, PerClass.fill, hl]

/-- With nothing pending there is no most urgent notice (R166). -/
theorem mostUrgent_none (s : State) (h : s.notices.pending = PerClass.fill none) : mostUrgent s = none := by
  simp [mostUrgent, NoticeClass.all, betterNotice, h, PerClass.get, PerClass.fill]

/-- A pending set read class by class. -/
theorem pending_fill (p : PerClass (Option Notice)) (h : ∀ c, p.get c = none) : p = PerClass.fill none := by
  obtain ⟨a1, a2, a3, a4, a5, a6, a7, a8, a9, a10, a11, a12, a13, a14, a15, a16, a17, a18, a19, a20⟩ := p
  have := h .supplyLow
  have := h .stopSense
  have := h .obstacleBreach
  have := h .referenceLost
  have := h .beltStall
  have := h .housingHigh
  have := h .programEnd
  have := h .obstacleUnsampled
  have := h .rampLimited
  have := h .programLow
  have := h .legLimit
  have := h .channelFault
  have := h .channelRecovered
  have := h .programGap
  have := h .scanOverrun
  have := h .truckComplete
  have := h .transferTimeout
  have := h .setupDefaulted
  have := h .segmentDone
  have := h .referenceSwitched
  simp_all [PerClass.get, PerClass.fill]

/-- An occurrence, wherever the line never waits: its flag, and its notice pending or on the line (R165,
R166, R176, R177). -/
theorem postAt_eq (s : State) (c : NoticeClass) (x : Nat) (d : NoticeDetail) (h : LineInv s) :
    postAt s c x d = s.occurred c x d := by
  by_cases hb : s.link.tx = .idle
  · obtain ⟨hs, hp⟩ := h.1 hb
    have hf := pending_fill _ hp
    unfold postAt arbitrate
    by_cases hl : s.setup.levels.get c < 3
    · have hq : (takeOccurrence s c x d).notices.pending =
          (PerClass.fill none).set c (some { station := x, detail := d, repeated := false }) := by
        simp [takeOccurrence, levelOf, hl, coalesce, hf]
      have hu := mostUrgent_single (takeOccurrence s c x d) c _ hq hl
      have hz : ((PerClass.fill none : PerClass (Option Notice)).set c
          (some { station := x, detail := d, repeated := false })).set c none = PerClass.fill none := by
        cases c <;> rfl
      simp only [takeOccurrence_frame, hb, hs, offerNotice, hu, sendNotice, hq, hz]
      simp [State.occurred, Notices.occurred, Link.occurred, SentAtOnce, hb, hl, hf, takeOccurrence, levelOf,
        nextSequence, State.setNotices, State.setLink]
      exact ⟨hs.symm, rfl⟩
    · have hq : (takeOccurrence s c x d).notices.pending = PerClass.fill none := by
        simp [takeOccurrence, levelOf, hl, hf]
      simp only [takeOccurrence_frame, hb, hs, offerNotice, mostUrgent_none _ hq]
      simp [State.occurred, Notices.occurred, Link.occurred, SentAtOnce, hb, hl, takeOccurrence, levelOf,
        State.setNotices]
  · have hb' : (takeOccurrence s c x d).link.tx ≠ .idle := by simpa using hb
    rw [postAt, arbitrate_busy _ hb']
    by_cases hl : s.setup.levels.get c < 3
    · have hl' : ¬3 ≤ s.setup.levels.get c := by omega
      simp [State.occurred, Notices.occurred, Link.occurred, SentAtOnce, hb, hl, hl', takeOccurrence, levelOf,
        State.setNotices, coalesce]
    · have hl' : 3 ≤ s.setup.levels.get c := by omega
      simp [State.occurred, Notices.occurred, Link.occurred, SentAtOnce, hb, hl, hl', takeOccurrence, levelOf,
        State.setNotices]

/-- `postAt_eq` at the live station. -/
theorem post_eq (s : State) (c : NoticeClass) (d : NoticeDetail) (h : LineInv s) :
    post s c d = s.occurred c s.travel.station d := postAt_eq s c _ d h

end Sys2Proof.Machine
end

