-- ==== Sys2Proof/Laws/PerInstr.lean ====
section
/-! SUPPORT. The families of statements over all commands, one lemma for each constructor of `Instr`. -/

namespace Sys2Proof

/-- A request row is a frame of Table 10.7: its kind is a request kind, and its body has at most the 21 bytes of
the longest, a Write Setup of group NOTICE (R171, R174). The other rows carry no request. -/
def Laws.RequestRow.Statement (i : Instr) : Prop :=
  ∀ tag r, i.request? = some (tag, r) → isRequestKind r.kind = true ∧ r.body.length ≤ 21

/-- What a request row's lemma needs of its request. -/
theorem Laws.requestRow_of {i : Instr} {tag : Byte} {r : Request} (h : i.request? = some (tag, r))
    (hk : isRequestKind r.kind = true) (hb : r.body.length ≤ 21) : Laws.RequestRow.Statement i := by
  intro t q hq; rw [h] at hq; cases hq; exact ⟨hk, hb⟩

/-- A row that carries no request. -/
theorem Laws.requestRow_none {i : Instr} (h : i.request? = none) : Laws.RequestRow.Statement i := by
  intro t q hq; rw [h] at hq; cases hq

theorem Laws.RequestRow.fullReset (a b : Bool) :
    Laws.RequestRow.Statement (Instr.fullReset a b) :=
  Laws.requestRow_none rfl

theorem Laws.RequestRow.setupLoad :
    Laws.RequestRow.Statement (Instr.setupLoad) :=
  Laws.requestRow_none rfl

theorem Laws.RequestRow.startupSettleExpiry :
    Laws.RequestRow.Statement (Instr.startupSettleExpiry) :=
  Laws.requestRow_none rfl

theorem Laws.RequestRow.encoderEdge (a b : Bool) :
    Laws.RequestRow.Statement (Instr.encoderEdge a b) :=
  Laws.requestRow_none rfl

theorem Laws.RequestRow.speedIntervalEnd :
    Laws.RequestRow.Statement (Instr.speedIntervalEnd) :=
  Laws.requestRow_none rfl

theorem Laws.RequestRow.standstillTimerExpiry :
    Laws.RequestRow.Statement (Instr.standstillTimerExpiry) :=
  Laws.requestRow_none rfl

theorem Laws.RequestRow.standstillTriggerTimerExpiry :
    Laws.RequestRow.Statement (Instr.standstillTriggerTimerExpiry) :=
  Laws.requestRow_none rfl

theorem Laws.RequestRow.setStation (tag : Byte) (station : BitVec 24) :
    Laws.RequestRow.Statement (Instr.setStation tag station) :=
  Laws.requestRow_of rfl rfl (Nat.le_of_ble_eq_true rfl)

theorem Laws.RequestRow.triggerTaken (kind : TriggerKind) (station : Nat) :
    Laws.RequestRow.Statement (Instr.triggerTaken kind station) :=
  Laws.requestRow_none rfl

theorem Laws.RequestRow.standstillBeginEvent :
    Laws.RequestRow.Statement (Instr.standstillBeginEvent) :=
  Laws.requestRow_none rfl

theorem Laws.RequestRow.standstillEndEvent :
    Laws.RequestRow.Statement (Instr.standstillEndEvent) :=
  Laws.requestRow_none rfl

theorem Laws.RequestRow.settleTimerExpiry :
    Laws.RequestRow.Statement (Instr.settleTimerExpiry) :=
  Laws.requestRow_none rfl

theorem Laws.RequestRow.intervalTimerExpiry :
    Laws.RequestRow.Statement (Instr.intervalTimerExpiry) :=
  Laws.requestRow_none rfl

theorem Laws.RequestRow.parkTimerExpiry :
    Laws.RequestRow.Statement (Instr.parkTimerExpiry) :=
  Laws.requestRow_none rfl

theorem Laws.RequestRow.noLegAutoReport :
    Laws.RequestRow.Statement (Instr.noLegAutoReport) :=
  Laws.requestRow_none rfl

theorem Laws.RequestRow.scanEnd (raw : Octet (BitVec 12)) :
    Laws.RequestRow.Statement (Instr.scanEnd raw) :=
  Laws.requestRow_none rfl

theorem Laws.RequestRow.legCommand (d : Side) (u : Int) :
    Laws.RequestRow.Statement (Instr.legCommand d u) :=
  Laws.requestRow_none rfl

theorem Laws.RequestRow.referenceLostRequest (d : Side) :
    Laws.RequestRow.Statement (Instr.referenceLostRequest d) :=
  Laws.requestRow_none rfl

theorem Laws.RequestRow.noTargetRequest (d : Side) :
    Laws.RequestRow.Statement (Instr.noTargetRequest d) :=
  Laws.requestRow_none rfl

theorem Laws.RequestRow.targetLost :
    Laws.RequestRow.Statement (Instr.targetLost) :=
  Laws.requestRow_none rfl

theorem Laws.RequestRow.leftAutoReport (d : Side) :
    Laws.RequestRow.Statement (Instr.leftAutoReport d) :=
  Laws.requestRow_none rfl

theorem Laws.RequestRow.leftHoldReport (d : Side) :
    Laws.RequestRow.Statement (Instr.leftHoldReport d) :=
  Laws.requestRow_none rfl

theorem Laws.RequestRow.breachMark (id : Nat) (d : Side) (depth : Int) (bound : Nat) :
    Laws.RequestRow.Statement (Instr.breachMark id d depth bound) :=
  Laws.requestRow_none rfl

theorem Laws.RequestRow.cutReport (r : CutReport) :
    Laws.RequestRow.Statement (Instr.cutReport r) :=
  Laws.requestRow_none rfl

theorem Laws.RequestRow.clearRemainder :
    Laws.RequestRow.Statement (Instr.clearRemainder) :=
  Laws.requestRow_none rfl

theorem Laws.RequestRow.reasonAdd (r : HoldReason) (cap : Nat) :
    Laws.RequestRow.Statement (Instr.reasonAdd r cap) :=
  Laws.requestRow_none rfl

theorem Laws.RequestRow.reasonWithdraw (r : HoldReason) :
    Laws.RequestRow.Statement (Instr.reasonWithdraw r) :=
  Laws.requestRow_none rfl

theorem Laws.RequestRow.programEndAhead :
    Laws.RequestRow.Statement (Instr.programEndAhead) :=
  Laws.requestRow_none rfl

theorem Laws.RequestRow.startScan (tag : Byte) :
    Laws.RequestRow.Statement (Instr.startScan tag) :=
  Laws.requestRow_of rfl rfl (Nat.le_of_ble_eq_true rfl)

theorem Laws.RequestRow.stopScan (tag : Byte) :
    Laws.RequestRow.Statement (Instr.stopScan tag) :=
  Laws.requestRow_of rfl rfl (Nat.le_of_ble_eq_true rfl)

theorem Laws.RequestRow.singleScan (tag : Byte) :
    Laws.RequestRow.Statement (Instr.singleScan tag) :=
  Laws.requestRow_of rfl rfl (Nat.le_of_ble_eq_true rfl)

theorem Laws.RequestRow.singlePassEnd (raw : Octet (BitVec 12)) :
    Laws.RequestRow.Statement (Instr.singlePassEnd raw) :=
  Laws.requestRow_none rfl

theorem Laws.RequestRow.readChannels (tag : Byte) :
    Laws.RequestRow.Statement (Instr.readChannels tag) :=
  Laws.requestRow_of rfl rfl (Nat.le_of_ble_eq_true rfl)

theorem Laws.RequestRow.loadSegments (tag : Byte) (count : Byte) :
    Laws.RequestRow.Statement (Instr.loadSegments tag count) :=
  Laws.requestRow_of rfl rfl (Nat.le_of_ble_eq_true rfl)

theorem Laws.RequestRow.segmentRecord (tag : Byte) (r : SegmentWire) :
    Laws.RequestRow.Statement (Instr.segmentRecord tag r) :=
  Laws.requestRow_of rfl rfl (Nat.le_of_ble_eq_true rfl)

theorem Laws.RequestRow.itemTimerExpiry :
    Laws.RequestRow.Statement (Instr.itemTimerExpiry) :=
  Laws.requestRow_none rfl

theorem Laws.RequestRow.abortTransfer (tag : Byte) :
    Laws.RequestRow.Statement (Instr.abortTransfer tag) :=
  Laws.requestRow_of rfl rfl (Nat.le_of_ble_eq_true rfl)

theorem Laws.RequestRow.cutProgram (tag : Byte) (c : BitVec 24) :
    Laws.RequestRow.Statement (Instr.cutProgram tag c) :=
  Laws.requestRow_of rfl rfl (Nat.le_of_ble_eq_true rfl)

theorem Laws.RequestRow.clearProgram (tag : Byte) :
    Laws.RequestRow.Statement (Instr.clearProgram tag) :=
  Laws.requestRow_of rfl rfl (Nat.le_of_ble_eq_true rfl)

theorem Laws.RequestRow.querySegment (tag : Byte) (id : BitVec 16) :
    Laws.RequestRow.Statement (Instr.querySegment tag id) :=
  Laws.requestRow_of rfl rfl (Nat.le_of_ble_eq_true rfl)

theorem Laws.RequestRow.locateByStation (tag : Byte) (x : BitVec 24) :
    Laws.RequestRow.Statement (Instr.locateByStation tag x) :=
  Laws.requestRow_of rfl rfl (Nat.le_of_ble_eq_true rfl)

theorem Laws.RequestRow.locateBySegment (tag : Byte) (id : BitVec 16) (offset : BitVec 24) :
    Laws.RequestRow.Statement (Instr.locateBySegment tag id offset) :=
  Laws.requestRow_of rfl rfl (Nat.le_of_ble_eq_true rfl)

theorem Laws.RequestRow.addObstacle (tag : Byte) (o : ObstacleWire) :
    Laws.RequestRow.Statement (Instr.addObstacle tag o) :=
  Laws.requestRow_of rfl rfl (Nat.le_of_ble_eq_true rfl)

theorem Laws.RequestRow.removeObstacle (tag : Byte) (id : Byte) :
    Laws.RequestRow.Statement (Instr.removeObstacle tag id) :=
  Laws.requestRow_of rfl rfl (Nat.le_of_ble_eq_true rfl)

theorem Laws.RequestRow.listObstacles (tag : Byte) (index : Byte) :
    Laws.RequestRow.Statement (Instr.listObstacles tag index) :=
  Laws.requestRow_of rfl rfl (Nat.le_of_ble_eq_true rfl)

theorem Laws.RequestRow.setTrim (tag : Byte) (presence : Byte) (left right : BitVec 16) :
    Laws.RequestRow.Statement (Instr.setTrim tag presence left right) :=
  Laws.requestRow_of rfl rfl (Nat.le_of_ble_eq_true rfl)

theorem Laws.RequestRow.setLegMode (tag : Byte) (leg mode : Byte) :
    Laws.RequestRow.Statement (Instr.setLegMode tag leg mode) :=
  Laws.requestRow_of rfl rfl (Nat.le_of_ble_eq_true rfl)

theorem Laws.RequestRow.setLegModeAuto (tag : Byte) (leg : Byte) :
    Laws.RequestRow.Statement (Instr.setLegModeAuto tag leg) :=
  Laws.requestRow_of rfl rfl (Nat.le_of_ble_eq_true rfl)

theorem Laws.RequestRow.jogLeg (tag : Byte) (leg direction : Byte) (permille duration : BitVec 16) :
    Laws.RequestRow.Statement (Instr.jogLeg tag leg direction permille duration) :=
  Laws.requestRow_of rfl rfl (Nat.le_of_ble_eq_true rfl)

theorem Laws.RequestRow.jogTimerExpiry (d : Side) :
    Laws.RequestRow.Statement (Instr.jogTimerExpiry d) :=
  Laws.requestRow_none rfl

theorem Laws.RequestRow.switchSample (closed : PerInput Bool) :
    Laws.RequestRow.Statement (Instr.switchSample closed) :=
  Laws.requestRow_none rfl

theorem Laws.RequestRow.supplyMeasurement (millivolts : Nat) :
    Laws.RequestRow.Statement (Instr.supplyMeasurement millivolts) :=
  Laws.requestRow_none rfl

theorem Laws.RequestRow.beltPulse :
    Laws.RequestRow.Statement (Instr.beltPulse) :=
  Laws.requestRow_none rfl

theorem Laws.RequestRow.beltInterval :
    Laws.RequestRow.Statement (Instr.beltInterval) :=
  Laws.requestRow_none rfl

theorem Laws.RequestRow.truckSettleTimerExpiry :
    Laws.RequestRow.Statement (Instr.truckSettleTimerExpiry) :=
  Laws.requestRow_none rfl

theorem Laws.RequestRow.flashTimerExpiry :
    Laws.RequestRow.Statement (Instr.flashTimerExpiry) :=
  Laws.requestRow_none rfl

theorem Laws.RequestRow.hornTimerExpiry :
    Laws.RequestRow.Statement (Instr.hornTimerExpiry) :=
  Laws.requestRow_none rfl

theorem Laws.RequestRow.setBeltMode (tag : Byte) (mode : Byte) (percent : BitVec 16) :
    Laws.RequestRow.Statement (Instr.setBeltMode tag mode percent) :=
  Laws.requestRow_of rfl rfl (Nat.le_of_ble_eq_true rfl)

theorem Laws.RequestRow.setTruckTarget (tag : Byte) (litres : BitVec 16) :
    Laws.RequestRow.Statement (Instr.setTruckTarget tag litres) :=
  Laws.requestRow_of rfl rfl (Nat.le_of_ble_eq_true rfl)

theorem Laws.RequestRow.truckDone (tag : Byte) :
    Laws.RequestRow.Statement (Instr.truckDone tag) :=
  Laws.requestRow_of rfl rfl (Nat.le_of_ble_eq_true rfl)

theorem Laws.RequestRow.takeTruckRecord (tag : Byte) :
    Laws.RequestRow.Statement (Instr.takeTruckRecord tag) :=
  Laws.requestRow_of rfl rfl (Nat.le_of_ble_eq_true rfl)

theorem Laws.RequestRow.clearTotals (tag : Byte) :
    Laws.RequestRow.Statement (Instr.clearTotals tag) :=
  Laws.requestRow_of rfl rfl (Nat.le_of_ble_eq_true rfl)

theorem Laws.RequestRow.readTotals (tag : Byte) :
    Laws.RequestRow.Statement (Instr.readTotals tag) :=
  Laws.requestRow_of rfl rfl (Nat.le_of_ble_eq_true rfl)

theorem Laws.RequestRow.releaseHold (tag : Byte) (reason : Byte) :
    Laws.RequestRow.Statement (Instr.releaseHold tag reason) :=
  Laws.requestRow_of rfl rfl (Nat.le_of_ble_eq_true rfl)

theorem Laws.RequestRow.readStatus (tag : Byte) :
    Laws.RequestRow.Statement (Instr.readStatus tag) :=
  Laws.requestRow_of rfl rfl (Nat.le_of_ble_eq_true rfl)

theorem Laws.RequestRow.peekStatus (tag : Byte) :
    Laws.RequestRow.Statement (Instr.peekStatus tag) :=
  Laws.requestRow_of rfl rfl (Nat.le_of_ble_eq_true rfl)

theorem Laws.RequestRow.byteReceived (b : Byte) (framingError : Bool) :
    Laws.RequestRow.Statement (Instr.byteReceived b framingError) :=
  Laws.requestRow_none rfl

theorem Laws.RequestRow.unknownRequest (tag : Byte) (kind : Byte) (body : List Byte) :
    Laws.RequestRow.Statement (Instr.unknownRequest tag kind body) :=
  Laws.requestRow_none rfl

theorem Laws.RequestRow.silenceTimerExpiry :
    Laws.RequestRow.Statement (Instr.silenceTimerExpiry) :=
  Laws.requestRow_none rfl

theorem Laws.RequestRow.transmitterIdle :
    Laws.RequestRow.Statement (Instr.transmitterIdle) :=
  Laws.requestRow_none rfl

theorem Laws.RequestRow.identify (tag : Byte) :
    Laws.RequestRow.Statement (Instr.identify tag) :=
  Laws.requestRow_of rfl rfl (Nat.le_of_ble_eq_true rfl)

theorem Laws.RequestRow.linkReset (tag : Byte) :
    Laws.RequestRow.Statement (Instr.linkReset tag) :=
  Laws.requestRow_of rfl rfl (Nat.le_of_ble_eq_true rfl)

theorem Laws.RequestRow.writeSetupGeometry (tag : Byte) (g : GeometryWire) :
    Laws.RequestRow.Statement (Instr.writeSetupGeometry tag g) :=
  Laws.requestRow_of rfl rfl (Nat.le_of_ble_eq_true rfl)

theorem Laws.RequestRow.writeSetupChannel (tag : Byte) (c : Channel) (g : ChannelWire) :
    Laws.RequestRow.Statement (Instr.writeSetupChannel tag c g) :=
  Laws.requestRow_of rfl rfl (Nat.le_of_ble_eq_true rfl)

theorem Laws.RequestRow.writeSetupControl (tag : Byte) (g : ControlWire) :
    Laws.RequestRow.Statement (Instr.writeSetupControl tag g) :=
  Laws.requestRow_of rfl rfl (Nat.le_of_ble_eq_true rfl)

theorem Laws.RequestRow.writeSetupLeg (tag : Byte) (g : Sides LegWire) :
    Laws.RequestRow.Statement (Instr.writeSetupLeg tag g) :=
  Laws.requestRow_of rfl rfl (Nat.le_of_ble_eq_true rfl)

theorem Laws.RequestRow.writeSetupScan (tag : Byte) (g : ScanWire) :
    Laws.RequestRow.Statement (Instr.writeSetupScan tag g) :=
  Laws.requestRow_of rfl rfl (Nat.le_of_ble_eq_true rfl)

theorem Laws.RequestRow.writeSetupConveyor (tag : Byte) (g : ConveyorWire) :
    Laws.RequestRow.Statement (Instr.writeSetupConveyor tag g) :=
  Laws.requestRow_of rfl rfl (Nat.le_of_ble_eq_true rfl)

theorem Laws.RequestRow.writeSetupTruck (tag : Byte) (g : TruckWire) :
    Laws.RequestRow.Statement (Instr.writeSetupTruck tag g) :=
  Laws.requestRow_of rfl rfl (Nat.le_of_ble_eq_true rfl)

theorem Laws.RequestRow.writeSetupLimits (tag : Byte) (g : LimitsWire) :
    Laws.RequestRow.Statement (Instr.writeSetupLimits tag g) :=
  Laws.requestRow_of rfl rfl (Nat.le_of_ble_eq_true rfl)

theorem Laws.RequestRow.writeSetupNotice (tag : Byte) (g : PerClass Byte) :
    Laws.RequestRow.Statement (Instr.writeSetupNotice tag g) :=
  Laws.requestRow_of rfl rfl (Nat.le_of_ble_eq_true rfl)

theorem Laws.RequestRow.writeSetupLink (tag : Byte) (baud : Byte) :
    Laws.RequestRow.Statement (Instr.writeSetupLink tag baud) :=
  Laws.requestRow_of rfl rfl (Nat.le_of_ble_eq_true rfl)

theorem Laws.RequestRow.readSetup (tag : Byte) (group : Byte) :
    Laws.RequestRow.Statement (Instr.readSetup tag group) :=
  Laws.requestRow_of rfl rfl (Nat.le_of_ble_eq_true rfl)

theorem Laws.RequestRow.storeSetup (tag : Byte) :
    Laws.RequestRow.Statement (Instr.storeSetup tag) :=
  Laws.requestRow_of rfl rfl (Nat.le_of_ble_eq_true rfl)

theorem Laws.RequestRow.storeTimerExpiry :
    Laws.RequestRow.Statement (Instr.storeTimerExpiry) :=
  Laws.requestRow_none rfl

end Sys2Proof
end

