-- ==== Sys2Proof/Laws/Safety.lean ====
section
/-! SUPPORT. The operations that Safety.lean says anew for a reader, each proved to be what it says: the provers
cite these lemmas in place of unfolding the operations. -/

namespace Sys2Proof.Machine

open Sys2Proof

/-- The belt evaluated follows its inputs (R133, R134). -/
theorem evaluated_follows (p : ConveyorSetup) (c : Conveyor) : BeltFollows p (c.evaluated p) := by
  have stalled : (c.evaluated p).belt = .stalled ↔ c.belt = .stalled := by
    simp only [Conveyor.evaluated, beltStateFor]; split <;> grind
  refine ⟨fun h => ?_, fun hb hl hs purged hp => ?_, ?_, fun h => ?_⟩
  · have : c.belt = .stalled ∨ c.supplyLow = true ∨ c.stopSense = true := h.imp_left stalled.mp
    simp [Conveyor.evaluated, beltCommand, this]
  · have hn : ¬(c.belt = .stalled ∨ c.supplyLow = true ∨ c.stopSense = true) := by
      simp_all [Conveyor.evaluated]
    subst hp
    simp only [Conveyor.evaluated, beltCommand, if_neg hn, tableCommand, loadingCommand, clampNat]
    refine ⟨fun h => ?_, fun h => ?_, fun h => ⟨?_, fun k => ?_, fun k => ?_⟩⟩ <;> simp only [h]
    · rfl
    · grind
    · rintro (k | k | k) <;> simp [k]
    · simp only [k]; grind
    · simp only [k]; grind
  · rfl
  · have hb : c.belt ≠ .stalled := fun k => h (stalled.mpr k)
    simp only [Conveyor.evaluated, beltStateFor]

/-- The first failing check of a table (Table 10.5, Note). -/
theorem firstBad_iff (fields : List (Nat × Bool)) (off : Nat) :
    firstBad fields = some off ↔ FirstBad fields off := by
  simp only [firstBad, Option.map_eq_some_iff, List.find?_eq_some_iff_append, FirstBad]
  constructor
  · rintro ⟨⟨o, b⟩, ⟨hb, before, after, rfl, h⟩, rfl⟩
    exact ⟨before, after, by simpa using hb, by simpa using h⟩
  · rintro ⟨before, after, rfl, h⟩
    exact ⟨(off, false), ⟨rfl, before, after, rfl, by simpa using h⟩, rfl⟩

/-- No check of a table fails. -/
theorem firstBad_none (fields : List (Nat × Bool)) : firstBad fields = none ↔ ∀ q ∈ fields, q.2 = true := by
  simp [firstBad]

/-- The breach test at the live station (R83, R160). -/
theorem breachStands_iff (s : State) : breachStands s = true ↔ BreachHolds s := by
  have side : ∀ (o : Obstacle) (d : Side),
      ((o.covers d && match (Sides.mk (testDepth s.grade.sides.left) (testDepth s.grade.sides.right)).get d with
        | some m => decide (((o.cap + o.effectiveTolerance s.setup.control.tolerance : Nat) : Int) < m)
        | none => false) = true) ↔
      o.covers d = true ∧ (s.grade.sides.get d).reference = true ∧
        ((o.cap + o.tolerance.getD s.setup.control.tolerance : Nat) : Int) < (s.grade.sides.get d).depth := by
    intro o d
    cases d <;> simp only [Sides.get, testDepth, Bool.and_eq_true, Obstacle.effectiveTolerance] <;> split <;> grind
  have zone : ∀ o : Obstacle, o.contains s.travel.station = true ↔
      o.start ≤ s.travel.station ∧ s.travel.station < o.start + o.length := fun o => decide_eq_true_iff
  simp only [breachStands, breachTest, BreachHolds, List.any_eq_true, Bool.and_eq_true (Obstacle.contains _ _), zone,
    List.mem_cons, List.not_mem_nil, or_false, and_assoc]
  refine exists_congr fun o => and_congr_right fun _ => and_congr_right fun _ => and_congr_right fun _ => ?_
  constructor
  · rintro ⟨d, -, h⟩; exact ⟨d, (side o d).mp h⟩
  · rintro ⟨d, h⟩; exact ⟨d, by cases d <;> simp, (side o d).mpr h⟩

/-- A channel the reference check may use (R88, R120). -/
theorem liveUsable_iff (s : State) (kind : ChannelKind) (c : Channel) :
    liveUsable s kind c = true ↔ LiveUsable s kind c := by
  simp [liveUsable, LiveUsable, and_assoc]

/-- A side judged from the live records (R120). -/
theorem liveReference_iff (s : State) (d : Side) : liveReference s d = true ↔ LiveReference s d := by
  have group : ∀ e, liveGradeReference s e = true ↔
      ∃ c ∈ (if e = s.setup.geometry.refSide then s.setup.geometry.refGroup
        else s.setup.geometry.farGroup).channels, LiveUsable s .distance c := by
    intro e
    simp only [liveGradeReference, groupOf, List.any_eq_true, liveUsable_iff]; split <;> rfl
  simp only [liveReference, LiveReference, sideMode]
  split <;> simp_all [liveUsable_iff]

/-- A run of which the last segment alone carries a cross-slope (R41). -/
theorem lastSlope_append (before between : List Segment) (h : Segment) (v : Int) (hv : h.slope = some v)
    (hb : ∀ k ∈ between, k.slope = none) : lastSlope (before ++ h :: between) = some v := by
  have : between.filterMap Segment.slope = [] := by simpa [List.filterMap_eq_nil_iff] using hb
  simp [lastSlope, List.filterMap_append, hv, this]

theorem lastSlope_none (segs : List Segment) (h : ∀ k ∈ segs, k.slope = none) : lastSlope segs = none := by
  have : segs.filterMap Segment.slope = [] := by simpa [List.filterMap_eq_nil_iff] using h
  simp [lastSlope, this]

/-- In an ordered list the segments before g are those with a lower start. -/
theorem takeWhile_before (before after : List Segment) (g : Segment)
    (hl : ∀ h ∈ before ++ g :: after, 1 ≤ h.length)
    (ho : (before ++ g :: after).Pairwise fun g h => g.endStation ≤ h.start ∧ g.id ≠ h.id) :
    (before ++ g :: after).takeWhile (fun h => decide (h.start < g.start)) = before := by
  rw [List.takeWhile_append_of_pos]
  · simp
  · intro h hm
    have h1 : h.start + h.length ≤ g.start := ((List.pairwise_append.mp ho).2.2 h hm g (by simp)).1
    have h2 := hl h (by simp [hm])
    simp only [decide_eq_true_eq]; omega

/-- The effective cross-slope and its source, in a program in order (R41, R60). -/
theorem effectiveSlope_is (s : State) (hs : ProgramInv s) (dflt : Int) (g : Segment) :
    IsEffectiveSlope s.program dflt g (effectiveSlope s.program dflt g).1
      (effectiveSlope s.program dflt g).2.code := by
  have front : ∀ before after, s.program.segments = before ++ g :: after →
      s.program.segments.takeWhile (fun h => decide (h.start < g.start)) = before := by
    intro before after h
    rw [h]; exact takeWhile_before before after g (h ▸ hs.1) (h ▸ hs.2.1)
  refine ⟨fun a h => ?_, fun before h between after a hp hg hh hb => ?_, fun before after a hp hg hb ha => ?_,
    fun before after hp hg hb ha => ?_⟩
  · simp [effectiveSlope, h, SlopeSource.code]
  · have := front (before ++ h :: between) after (by simpa using hp)
    simp [effectiveSlope, hg, this, lastSlope_append before between h a hh hb, SlopeSource.code]
  · simp [effectiveSlope, hg, front before after hp, lastSlope_none before hb, ha, SlopeSource.code]
  · simp [effectiveSlope, hg, front before after hp, lastSlope_none before hb, ha, SlopeSource.code]

end Sys2Proof.Machine
end

