-- ==== Sys2Proof/Tests/Slice0.lean ====
section
/-! SUPPORT. The model's own tests: ill-formed commands refused, the worked examples of spec/, and for every
statement with hypotheses a concrete state and operands that meet them. -/

namespace Sys2Proof.Tests

open Sys2Proof Sys2Proof.Machine

/-! ## WellFormed: one ill-formed command for each check -/

/-- R12: the Travel Counter issues no interval trigger. -/
theorem test_wf_intervalTrigger : (Instr.triggerTaken .interval 0).wf = false := by decide
theorem test_wf_triggerStation : (Instr.triggerTaken .distance 16777216).wf = false := by decide
theorem test_wf_legCommand : (Instr.legCommand .left 1001).wf = false := by decide
theorem test_wf_breachId : (Instr.breachMark 0 .left 0 0).wf = false := by decide
theorem test_wf_breachDepth : (Instr.breachMark 1 .left 7001 0).wf = false := by decide
theorem test_wf_breachBound : (Instr.breachMark 1 .left 0 3701).wf = false := by decide
/-- R111: a report without a depth carries no volume. -/
theorem test_wf_cutReport :
    (Instr.cutReport { sequence := 1, station := 2, travel := 1, kind := .noDepth, depth := 0, bank := 5,
                       loose := 6, rate := 0 }).wf = false := by decide
theorem test_wf_cutReportDepth :
    (Instr.cutReport { sequence := 1, station := 2, travel := 1, kind := .both, depth := 7001, bank := 5,
                       loose := 6, rate := 0 }).wf = false := by decide
/-- Table 8.4: only RAMP has a cap above 0. -/
theorem test_wf_reasonCap : (Instr.reasonAdd .breach 1).wf = false := by decide
theorem test_wf_rampCap : (Instr.reasonAdd .ramp 0).wf = false := by decide
/-- Set Leg Mode for AUTO has a row of its own. -/
theorem test_wf_setLegModeAuto : (Instr.setLegMode 1 0 2).wf = false := by decide
/-- Table 10.7: 01h is Set Station. -/
theorem test_wf_unknownRequest : (Instr.unknownRequest 1 0x01 []).wf = false := by decide
set_option maxRecDepth 4000 in
theorem test_wf_unknownLength : (Instr.unknownRequest 1 0x02 (List.replicate 241 0)).wf = false := by decide
theorem test_wf_accepted : (Instr.reasonAdd .ramp 15).wf = true ∧ (Instr.setLegMode 1 0 3).wf = true := by decide

/-! ## Worked examples of spec/ -/

set_option maxRecDepth 4000 in
/-- R171: the check of the nine characters 1 to 9 is 29B1h. -/
theorem test_crc : crc16 [0x31, 0x32, 0x33, 0x34, 0x35, 0x36, 0x37, 0x38, 0x39] = 0x29B1#16 := by decide

/-- Table 1.4. -/
theorem test_groundSpeed :
    groundSpeed 325 [16] = 19 ∧ groundSpeed 325 [-16] = -19 ∧ groundSpeed 1000 [25, 25] = 20 ∧
      groundSpeed 20000 [1] = 0 ∧ groundSpeed 100 [250] = 999 := by decide

def calibrating (gain offset : Int) (span : Nat) (mount : Int) : ChannelSetup :=
  { kind := .distance, gain := gain, offset := offset, span := span, mount := mount, spike := 0 }

/-- Table 2.6. -/
theorem test_calibration :
    calibrate (calibrating (-2048) (-256) 2000 0) 1000 = 619 ∧
      scale (calibrating (-2048) (-256) 2000 0) 619 = -1396 ∧
      calibrate (calibrating 2047 (-255) 1500 300) 12 = 0 ∧ scale (calibrating 2047 (-255) 1500 300) 0 = -1200 ∧
      calibrate (calibrating 4 0 1024 0) 2048 = 2049 ∧ scale (calibrating 4 0 1024 0) 2049 = 1 ∧
      calibrate (calibrating (-4) 0 1024 0) 2048 = 2047 ∧ scale (calibrating (-4) 0 1024 0) 2047 = -1 := by decide

def tableEntry : Obstacle :=
  { id := 7, start := 121400, length := 120, cap := 200, q := 2, mask := .both, tolerance := none,
    hold := none, state := .pending, crossed := false, breached := false, unsampled := false,
    passage := .idle, watched := false, sampled := false }
/-- Table 4.3. -/
theorem test_obstacleLimit :
    tableEntry.limitAt 121240 = 520 ∧ tableEntry.limitAt 121399 = 202 ∧ tableEntry.limitAt 121400 = 200 ∧
      tableEntry.limitAt 121519 = 200 ∧ tableEntry.limitAt 121520 = 202 ∧ tableEntry.limitAt 121700 = 562 := by
  decide

/-- Table 5.4. -/
theorem test_mean :
    meanValue [549, 546] = some 548 ∧ meanValue [500, 501, 501] = some 501 ∧ meanValue [-3, -4] = some (-4) ∧
      meanValue [812] = some 812 := by decide

/-- Table 5.6. -/
theorem test_controlLaw :
    rawCommand 5 12 5 = 0 ∧ rawCommand 5 12 (-5) = 0 ∧ rawCommand 5 12 6 = 12 ∧
      rawCommand 5 12 (-36) = -372 ∧ rawCommand 5 12 (-88) = -996 ∧ rawCommand 5 12 90 = 1000 ∧
      rawCommand 5 12 (-2000) = -1000 := by decide

/-- Table 6.4. -/
theorem test_coilCurrent :
    coilCurrent { start := 300, maximum := 1100, rate := 1 } (-230) = 484 ∧
      coilCurrent { start := 300, maximum := 1100, rate := 1 } (-372) = 598 ∧
      coilCurrent { start := 300, maximum := 1100, rate := 1 } 1 = 301 ∧
      coilCurrent { start := 300, maximum := 800, rate := 1 } 1 = 301 ∧
      coilCurrent { start := 100, maximum := 1500, rate := 1 } (-400) = 660 ∧
      coilCurrent { start := 100, maximum := 1500, rate := 1 } (-1000) = 1500 := by decide

/-- Table 7.3. -/
theorem test_cutRate :
    cutRatePercent 22464000 60 = 38 ∧ cutRatePercent 6000000 60 = 10 ∧ cutRatePercent 6000001 60 = 11 ∧
      cutRatePercent 0 60 = 0 ∧ cutRatePercent 55384560000 200 = 100 := by decide

def loadingAt (truck : TruckState) (rate housing : Nat) : Conveyor :=
  { State.reset.conveyor with mode := .auto, truck := truck, cutRate := rate, housing := housing }

/-- Table 7.4. -/
theorem test_beltCommand :
    beltCommand factorySetup.conveyor (loadingAt .loading 38 1) = 40 ∧
      beltCommand factorySetup.conveyor (loadingAt .loading 38 0) = 38 ∧
      beltCommand factorySetup.conveyor (loadingAt .loading 0 0) = 20 ∧
      beltCommand factorySetup.conveyor (loadingAt .loading 100 1) = 100 ∧
      beltCommand factorySetup.conveyor (loadingAt .topOff 38 1) = 30 ∧
      beltCommand factorySetup.conveyor (loadingAt .topOff 12 0) = 20 ∧
      beltCommand factorySetup.conveyor (loadingAt .full 38 1) = 0 := by decide

/-- R134: 480 mA at a command of 40; R135: 38 pulses read 38 %. -/
theorem test_beltCurrent :
    beltCurrent factorySetup.conveyor 40 = 480 ∧ measuredSpeed 38 1000 = 38 := by decide

/-! ## States for the steps below -/

/-- A machine past start-up, standing still with nothing in flight. -/
def rest : State :=
  { State.reset with
    advance := { holds := PerReason.fill none, speedCap := 200, permit := true },
    supply := { state := .normal, last := 243 },
    store := { State.reset.store with phase := .done } }

def someReply : Reply := { kind := 1, tag := 0, answer := answer .done [] }

/-- The machine with a reply on the line. -/
def sending (s : State) : State := { s with link := { s.link with tx := .reply someReply } }

def withSetup (s : State) (p : Setup) : State := { s with store := { s.store with working := p } }

/-- A working channel in place of a missing head. -/
def head (kind : ChannelKind) : ChannelSetup :=
  { kind := kind, gain := 0, offset := 0, span := 1000, mount := 0, spike := 50 }

/-- The factory setup with channels 0 and 1 fitted and channel 0 scanned. -/
def fitted : Setup :=
  { factorySetup with
    channels := (factorySetup.channels.set 0 (head .distance)).set 1 (head .distance),
    scan := { factorySetup.scan with count := 1 } }

def scanning (state : ScanState) : State :=
  { withSetup rest fitted with scanner := { rest.scanner with state := state } }

def inMode (s : State) (d : Side) (m : LegMode) : State :=
  { s with legs := { s.legs with legs := s.legs.legs.set d { s.legs.legs.get d with mode := m } } }

def someSegment : Segment :=
  { id := 11, start := 100, length := 50, depth := 400, grade := 25, slope := some (-150), endStop := false }

def withProgram (s : State) : State := { s with program := { s.program with segments := [someSegment] } }

def withEntry (s : State) : State := { s with obstacles := [tableEntry] }

def loading (s : State) : State :=
  { s with conveyor := { s.conveyor with
      mode := .auto, truck := .loading,
      current := some { number := 1, arrival := 0, delivered := 2000000000, endReason := none } } }

def after : Host.Outcome State Fault Refusal → State
  | .next t => t
  | _ => State.reset

theorem line_of_quiet (s : State) (hs : s.link.slot = none) (hr : s.link.rx = .hunt)
    (hp : s.notices.pending = PerClass.fill none) : LineInv s := by
  refine ⟨fun _ => ⟨hs, fun c => ?_⟩, fun k t b h => ?_, fun c h => ?_⟩
  · rw [hp]; cases c <;> rfl
  · rw [hr] at h; cases h
  · refine absurd ?_ h; rw [hp]; cases c <;> rfl

/-! ## The worked steps of file 05 section 5.9 -/

/-- Section 5.9.1. -/
def normalStep : State :=
  { inMode (inMode rest .left .auto) .right .auto with
    store := { rest.store with working := { factorySetup with
      geometry := { factorySetup.geometry with
        refMode := .gradeMean, farMode := .slope, refGroup := { count := 2, slots := ⟨0, 1, 0, 0⟩ },
        slopeChannel := 4 },
      control := { factorySetup.control with lookahead := 1500, gain := 12, slew := 80, swell := 135 } } },
    program := { rest.program with segments :=
      [{ id := 11, start := 120000, length := 5000, depth := 400, grade := 25, slope := some (-150),
         endStop := false }] },
    obstacles := [tableEntry],
    grade := { rest.grade with base := some 121235 },
    legs := { rest.legs with legs :=
      ⟨{ Leg.reset with mode := .auto, output := -150 }, { Leg.reset with mode := .auto, output := -300 }⟩ } }

def reading (channel : Channel) (kind : ChannelKind) (value : Int) : ChannelCopy :=
  { channel := channel, kind := kind, record := { ChannelRecord.reset with state := .valid, value := value } }

def normalCompletion : Completion :=
  { sequence := 1, kind := some .distance, station := 121240, speed := 20, stationSet := false,
    results := [reading 0 .distance 549, reading 1 .distance 546, reading 4 .slope (-132)] }

/-- Section 5.9.1: the commands and the cut report. -/
theorem test_normalStep :
    .legCommand .left (-230) ∈ (controlStep normalStep normalCompletion).handed ∧
      .legCommand .right (-372) ∈ (controlStep normalStep normalCompletion).handed ∧
      .reasonAdd .ramp 15 ∈ (controlStep normalStep normalCompletion).handed ∧
      .cutReport { sequence := 1, station := 121240, travel := 5, kind := .both, depth := 416, bank := 4160000,
                   loose := 5616000, rate := 22464000 } ∈ (controlStep normalStep normalCompletion).handed := by
  decide

/-- Section 5.9.1: the side items. -/
theorem test_normalStepSides :
    (controlStep normalStep normalCompletion).grade.sides.left.error = -88 ∧
      (controlStep normalStep normalCompletion).grade.sides.left.effective = 460 ∧
      (controlStep normalStep normalCompletion).grade.sides.left.approach = true ∧
      (controlStep normalStep normalCompletion).grade.sides.right.depth = 284 ∧
      (controlStep normalStep normalCompletion).grade.sides.right.target = some 248 ∧
      (controlStep normalStep normalCompletion).grade.sides.right.error = -36 ∧
      (controlStep normalStep normalCompletion).grade.base = some 121240 := by decide

/-! ## Witnesses: states and operands that meet the hypotheses of the statements, at the ends of each range -/

theorem witness_StepRunsFrontCommand : (rest.setPending [.beltPulse]).pending = [.beltPulse] := rfl

theorem witness_EmptyQueueStep :
    (rest.pending = [] ∧ (rest.setHanded [.clearRemainder]).handed = [.clearRemainder]) ∧ rest.handed = [] := by
  decide

/-- A leg in AUTO driving its RAISE coil; a belt pulse keeps it. -/
def driven : State :=
  { rest with legs := { rest.legs with legs :=
      ⟨{ Leg.reset with mode := .auto, output := -230, raiseCoil := 422 }, Leg.reset⟩ } }

theorem witness_LegsInvKept : LegsInv driven ∧ ∃ t, step { driven with pending := [.beltPulse] } = .next t := by
  refine ⟨⟨⟨Or.inr rfl, fun h => ?_, fun h => ?_⟩, ⟨Or.inl rfl, fun _ => ⟨rfl, rfl, rfl⟩, fun h => ?_⟩⟩, _, rfl⟩
  · revert h; decide
  · revert h; decide
  · revert h; decide

/-- RAMP held with cap 15. -/
def ramped : State :=
  { rest with advance := { holds := (PerReason.fill none).set .ramp (some 15), speedCap := 15, permit := true } }

theorem witness_CapInvKept : CapInv ramped ∧ ∃ t, step { ramped with pending := [.beltPulse] } = .next t := by
  refine ⟨⟨by decide, fun r c h => ?_, Or.inr ⟨.ramp, rfl⟩, rfl⟩, _, rfl⟩
  cases r <;> simp_all [ramped, PerReason.get, PerReason.set, PerReason.fill]

theorem witness_LineInvKept : LineInv rest ∧ ∃ t, step { rest with pending := [.beltPulse] } = .next t :=
  ⟨line_of_quiet rest rfl rfl rfl, _, rfl⟩

def highEnd : State := { rest with travel := { rest.travel with station := maxStation, frac := 999, edges := 3 } }

theorem witness_TravelInvKept : TravelInv highEnd ∧ ∃ t, step { highEnd with pending := [.beltPulse] } = .next t :=
  ⟨⟨by decide, by decide, by decide, by decide, show 100 ≤ 1000 by decide,
    fun _ h => absurd (h : none = some _) nofun, fun _ h => absurd (h : none = some _) nofun⟩, _, rfl⟩

theorem witness_ProgramInvKept :
    ProgramInv (withProgram rest) ∧ ∃ t, step { withProgram rest with pending := [.beltPulse] } = .next t :=
  ⟨⟨by decide, by decide, by decide, fun t h => nomatch h⟩, _, rfl⟩

theorem witness_TablesInvKept :
    TablesInv (withEntry rest) ∧ ∃ t, step { withEntry rest with pending := [.beltPulse] } = .next t :=
  ⟨⟨by decide, by decide, by decide⟩, _, rfl⟩

theorem witness_RequestRows :
    (Instr.readSetup 1 2).request? = some (1, .readSetup 2) ∧ rest.store.phase ≠ .load := by decide

theorem witness_SetupLoad :
    (State.reset.store.phase = .load ∧ State.reset.store.begun = false ∧ State.reset.store.stored = none ∧
      (sending State.reset).link.tx ≠ .idle) ∧
    ((State.reset.setStore { State.reset.store with stored := some fitted }).store.stored = some fitted) ∧
    (State.reset.setStore { State.reset.store with begun := true }).store.begun = true := by decide

theorem witness_StartupSettle :
    ((rest.setStore { rest.store with phase := .settle }).store.phase = .settle ∧ rest.supply.state = .normal) ∧
      State.reset.supply.state ≠ .normal := by decide

/-- Three forward edges counted, at station x with accumulator f. -/
def beforePulse (x f : Nat) (edges : Int) (b : Bool) : State :=
  { rest with travel := { rest.travel with station := x, frac := f, edges := edges, phaseB := b } }

/-- A pulse that moves the station (f + 100 = P) and one that does not, with the trigger distance reached. -/
theorem witness_ForwardPulse :
    forwardEdge rest.setup.geometry.sense false true false false ∧ rest.setup.geometry.pulses = 1000 ∧
      (beforePulse (maxStation - 1) 900 3 true).travel.edges = 3 ∧
      (beforePulse (maxStation - 1) 900 3 true).travel.standstill = true ∧ 1000 ≤ 900 + 100 ∧ 899 + 100 < 1000 ∧
      maxStation - 1 < maxStation ∧
      (rest.setTravel { rest.travel with triggerCount := 4 }).travel.triggerCount + 1 = rest.setup.scan.distance :=
  ⟨by show _ ∈ normalOrder; decide, by decide⟩

theorem witness_ReversePulse :
    forwardEdge rest.setup.geometry.sense false false true false ∧ rest.setup.geometry.pulses = 1000 ∧
      (beforePulse 1 99 (-3) false).travel.edges = -3 ∧ 0 < (beforePulse 1 99 (-3) false).travel.station ∧
      (beforePulse 1 99 (-3) false).travel.frac < 100 ∧ 100 ≤ (beforePulse 1 100 (-3) false).travel.frac :=
  ⟨by show _ ∈ normalOrder; decide, by decide⟩

theorem witness_EdgesWithoutPulse :
    (forwardEdge rest.setup.geometry.sense false false true false ∧ rest.travel.edges < 3) ∧
    (forwardEdge rest.setup.geometry.sense false true false false ∧ -3 < rest.travel.edges) ∧
    (true ≠ rest.travel.phaseA ∧ true ≠ rest.travel.phaseB) ∧
    ((beforePulse maxStation 900 3 true).travel.station = maxStation ∧ 1000 ≤ 900 + 100) ∧
    ((beforePulse 0 99 (-3) false).travel.station = 0 ∧ (beforePulse 0 99 (-3) false).travel.frac < 100) :=
  ⟨⟨by show _ ∈ normalOrder; decide, by decide⟩, ⟨by show _ ∈ normalOrder; decide, by decide⟩, by decide⟩

theorem witness_TravelTimers :
    (rest.setTravel { rest.travel with standstillTimer := true }).travel.standstillTimer = true ∧
    rest.travel.triggerTimer = some 200 := by
  decide

theorem witness_SetStation :
    (Listening rest ∧ Unscreened rest ∧ ¬Unscreened { rest with program :=
        { rest.program with transfer := some { announced := 1, accepted := 0 } } } ∧
      rest.travel.standstill = true ∧ NoAuto rest ∧ rest.program.segments = [] ∧
      rest.obstacles = []) ∧
    (rest.setTravel { rest.travel with standstill := false }).travel.standstill = false ∧
    ¬NoAuto (inMode rest .right .auto) ∧
    (withProgram rest).program.segments ≠ [] ∧ (withEntry rest).obstacles ≠ [] := by decide

theorem witness_TravelTrigger :
    TriggerKind.standstill ≠ .interval ∧ (scanning .armed).setup.scan.mode = .distance ∧
      (scanning .armed).scanner.state = .armed ∧ (scanning .parked).scanner.state = .parked ∧
      (scanning .stopped).scanner.state = .stopped ∧ (scanning .single).scanner.state = .single ∧
      LineInv (scanning .single) ∧
      (withSetup rest { fitted with scan := { fitted.scan with mode := .interval } }).setup.scan.mode = .interval :=
  ⟨by decide, rfl, rfl, rfl, rfl, rfl, line_of_quiet _ rfl rfl rfl, rfl⟩

/-- A scanner with every timer running. -/
def timed (state : ScanState) : State :=
  { scanning state with scanner := { (scanning state).scanner with
      settleTimer := some 1, intervalTimer := some 1, parkTimer := some 1, parkDue := true } }

theorem witness_ScannerTimers :
    (timed .settling).scanner.settleTimer = some 1 ∧
    ((timed .armed).scanner.intervalTimer = some 1 ∧ (timed .armed).scanner.state = .armed) ∧
    ((timed .scanning).scanner.state = .scanning ∧ LineInv (timed .scanning)) :=
  ⟨rfl, ⟨rfl, rfl⟩, rfl, line_of_quiet _ rfl rfl rfl⟩

theorem witness_ParkingAndWaking :
    ((timed .armed).scanner.parkTimer = some 1 ∧ NoAuto (timed .armed) ∧
      ¬NoAuto (inMode (timed .armed) .left .auto)) ∧
    ((timed .armed).scanner.parkDue = true ∧ (timed .armed).travel.standstill = true) ∧
    (scanning .armed).scanner.parkDue = false ∧ 0 < (timed .armed).setup.scan.park ∧
    (timed .stopped).scanner.state = .stopped := by decide

/-- A scan in flight, begun at station 40. -/
def inFlight (s : State) (kind : Option TriggerKind) : State :=
  { s with scanner := { s.scanner with
      inFlight := some { kind := kind, station := 40, speed := 0, stationSet := false } } }

theorem witness_ScanEnd :
    (inFlight (timed .scanning) (some .distance)).scanner.state = .scanning ∧
      (inFlight (timed .scanning) (some .distance)).scanner.inFlight =
        some { kind := some .distance, station := 40, speed := 0, stationSet := false } ∧
      (timed .scanning).scanner.parkDue = true ∧ NoAuto (timed .scanning) := by decide

/-- Channel 0 in a state with its runs. -/
def channelAt (state : ChannelState) (out good spike : Nat) : State :=
  { scanning .single with scanner := { (scanning .single).scanner with
      records := (scanning .single).scanner.records.set 0
        { raw := 2048, calibrated := 2048, value := 0, state := state, outRun := out, goodRun := good,
          spikeRun := spike, spikeSide := .above } } }

/-- Raw counts at the four ends of the range check, and the runs one short of each change of state. -/
theorem witness_ChannelProcessing :
    (scanning .single).setup.scan.list = [0] ∧
      ((Octet.fill 8#12).get 0).toNat ≤ 8 ∧ 4087 ≤ ((Octet.fill 4087#12).get 0).toNat ∧
      (9 ≤ ((Octet.fill 9#12).get 0).toNat ∧ ((Octet.fill 4086#12).get 0).toNat ≤ 4086) ∧
      2 ≤ ((channelAt .valid 2 0 0).scanner.records.get 0).outRun ∧
      ((channelAt .fault 3 4 0).scanner.records.get 0).state = .fault ∧
      ((channelAt .fault 3 3 0).scanner.records.get 0).goodRun < 4 ∧
      (0 < (fitted.channels.get 0).spike ∧
        ((channelAt .valid 0 0 3).scanner.records.get 0).value + (fitted.channels.get 0).spike <
          scale (head .distance) 4086 ∧
        scale (head .distance) 9 <
          ((channelAt .valid 0 0 3).scanner.records.get 0).value - (fitted.channels.get 0).spike) ∧
      (scale (head .distance) 2048 - ((channelAt .valid 0 0 3).scanner.records.get 0).value).natAbs ≤
        (fitted.channels.get 0).spike := by decide

theorem witness_ScanRequests :
    (Accepting (scanning .stopped) ∧ (scanning .stopped).scanner.state = .stopped ∧
      (scanning .stopped).setup.scan.list ≠ [] ∧ (scanning .stopped).setup.scan.mode ≠ .interval) ∧
    scanDuration fitted ≤ fitted.scan.prescaler * fitted.scan.period ∧ NoAuto (scanning .scanning) := by decide

/-- A reference side in GRADE_ONE on channel 0, in AUTO inside the segment. -/
def controlling : State := withProgram (inMode (scanning .armed) .left .auto)

def controlCompletion : Completion :=
  { normalCompletion with station := 120, results := [reading 0 .distance 549] }

theorem witness_ControlStepCommand :
    controlling.obstacles = [] ∧ controlling.setup.geometry.refSide = .left ∧
      controlling.setup.geometry.refMode = .gradeOne ∧ controlling.setup.geometry.refGroup.channels = [0] ∧
      usableValue controlCompletion .distance 0 = some 549 ∧ (legOf controlling .left).mode = .auto ∧
      positionIn controlling.program.segments controlCompletion.station = .inside someSegment := by decide

theorem witness_Queries :
    Accepting (withEntry (withProgram rest)) ∧
      (withProgram rest).program.segments.find? (fun h => h.id == (11#16).toNat) = some someSegment ∧
      positionIn (withProgram rest).program.segments (100#24).toNat = .inside someSegment ∧
      positionIn (withProgram rest).program.segments (149#24).toNat = .inside someSegment ∧
      (50#24).toNat ≤ someSegment.length ∧ rest.conveyor.housing < 1000000 * 2 ^ 32 ∧
      2000000000 < 1000000 * 65536 := by decide

/-- A transfer phase with two of three records taken. -/
def transferring : State :=
  { withProgram rest with program :=
      { (withProgram rest).program with transfer := some { announced := 3, accepted := 2 } } }

theorem witness_StatusAndReadSetup :
    Listening transferring ∧ ¬Unscreened transferring ∧ Unscreened rest ∧ 16 < (17#8).toNat ∧ (16#8).toNat ≤ 16 := by
  decide

theorem witness_Transfer :
    (Accepting rest ∧ (16 : Nat) ≤ 16 ∧ rest.program.segments.length + 16 ≤ 104) ∧
    (Listening transferring ∧ transferring.store.storing = none ∧ transferring.program.transfer.isSome = true ∧
      transferring.program.transfer = some { announced := 3, accepted := 2 }) := by decide

theorem witness_ItemTimer : LineInv transferring := line_of_quiet _ rfl rfl rfl

/-- A record that begins where the list ends. -/
def nextRecord : SegmentWire :=
  { id := 12, start := 150, length := 1, depth := 3500, grade := 0, slope := 1000, flags := 2 }

theorem witness_SegmentRecord :
    Listening (sending transferring) ∧
      (sending transferring).link.tx ≠ .idle ∧ (SegmentWire.segment nextRecord).depth ≤ 3500 ∧
      (SegmentWire.segment nextRecord).endDepth = 3500 ∧
      (SegmentWire.segment nextRecord).start + (SegmentWire.segment nextRecord).length ≤ maxStation ∧
      (∀ h ∈ transferring.program.segments, h.id ≠ (SegmentWire.segment nextRecord).id) ∧
      lastEnd transferring.program.segments = (SegmentWire.segment nextRecord).start ∧
      transferring.travel.station < (SegmentWire.segment nextRecord).start + (SegmentWire.segment nextRecord).length := by decide

theorem witness_CutAndClear :
    Accepting (sending (withProgram rest)) ∧ (withProgram rest).travel.station < (1#24).toNat ∧ NoAuto (withProgram rest) := by decide

/-- The wire form of an entry at station x. -/
def entryAt (x : BitVec 24) : ObstacleWire :=
  { id := 9, start := x, length := 5000, cap := 3500, q := 50, mask := 3, tolerance := 200, flags := 3 }

/-- An entry ahead, one that holds the station, and one behind at the farthest distance allowed. -/
theorem witness_Obstacles :
    (Accepting (withEntry rest) ∧ SideMask.ofCode (entryAt 0).mask.toNat = some .both ∧
      (obstacleOfWire (entryAt 0) .both).tolerance = some 200 ∧ rest.travel.station < (entryAt 1).start.toNat ∧
      rest.travel.station ≤ 0 + 5000 - 1 + 5000 ∧ (∀ h ∈ (withEntry rest).obstacles, h.id ≠ 9) ∧
      (withEntry rest).obstacles.length < 24) ∧
    ((withEntry rest).obstacles.find? (fun o => o.id == (7#8).toNat) = some tableEntry ∧
      tableEntry.state ≠ .inside ∧ NoAuto rest) := by decide

theorem witness_BreachMark :
    LineInv (withEntry rest) ∧ rest.obstacles.find? (fun o => o.id == 7) = none ∧
      (withEntry rest).obstacles.find? (fun o => o.id == 7) = some tableEntry ∧ tableEntry.breached = false ∧
      (rest.setObstacles [{ tableEntry with breached := true }]).obstacles.find? (fun o => o.id == 7) =
        some { tableEntry with breached := true } :=
  ⟨line_of_quiet _ rfl rfl rfl, by decide⟩

theorem witness_SetTrim : Accepting rest ∧ (301#16).toInt = 301 ∧ (3#8).getLsbD 1 = true := by decide

theorem witness_LegCommand :
    (legOf (inMode rest .left .auto) .left).mode = .auto ∧ (legOf rest .left).mode ≠ .auto := by decide

theorem witness_HoldRequests :
    ((legOf (inMode rest .left .auto) .left).mode = .auto ∧ (legOf (inMode rest .left .auto) .right).mode ≠ .auto) ∧
    (legOf (inMode (inMode rest .left .auto) .right .auto) .right).mode = .auto ∧ NoAuto rest := by decide

theorem witness_SetLegMode :
    Accepting rest ∧ sideOfCode (1#8).toNat = some .right ∧ LegMode.ofCode (3#8).toNat = some .hold ∧
      LegMode.hold ≠ .auto := by decide

/-- A machine that grants AUTO to the LEFT leg, and the states that fail one check each. -/
def grantable : State :=
  { withProgram (scanning .armed) with
    travel := { rest.travel with station := 120 },
    grade := { rest.grade with base := some 120, sides := ⟨{ GradeSide.reset with reference := true }, GradeSide.reset⟩ } }

theorem witness_SetLegModeAuto :
    Accepting grantable ∧ (legOf grantable .left).mode ≠ .auto ∧
    (legOf (inMode grantable .left .auto) .left).mode = .auto ∧
      grantable.advance.holds.startup = none ∧ grantable.legs.supplyLow = false ∧ grantable.legs.stopSense = false ∧
      grantable.scanner.state = .armed ∧ grantable.program.segments = someSegment :: [] ∧ someSegment.start ≤ 120 ∧ ¬someSegment.start ≤ 99 ∧
      (grantable.grade.sides.get .left).reference = true ∧ (grantable.grade.sides.get .right).reference = false ∧
      rest.program.segments = [] ∧ State.reset.advance.holds.startup ≠ none ∧ rest.scanner.state = .stopped ∧
      (rest.setLegs { rest.legs with supplyLow := true }).legs.supplyLow = true ∧
      (rest.setLegs { rest.legs with stopSense := true }).legs.stopSense = true := by
  decide

theorem witness_Jog :
    (Accepting (inMode rest .left .manual) ∧ sideOfCode (0#8).toNat = some .left ∧
      JogDirection.ofCode (0#8).toNat = some .raise ∧ 10 ≤ (10#16).toNat ∧ (2000#16).toNat ≤ 2000 ∧
      (legOf (inMode rest .left .manual) .left).mode = .manual ∧ (legOf rest .left).upper = false) ∧
    (legOf (rest.setLegs { rest.legs with legs :=
      ⟨{ Leg.reset with mode := .manual, jog := some { dir := .raise, permille := 1, duration := 10 } },
        Leg.reset⟩ }) .left).jog.isSome = true := by decide

def report (loose : Nat) : CutReport :=
  { sequence := 1, station := 2, travel := 1, kind := .both, depth := 1, bank := 1, loose := loose, rate := 1 }

/-- H one above the limit, at half the limit, and between the two. -/
theorem witness_CutReport :
    rest.setup.conveyor.housingLimit * 1000000 < rest.conveyor.housing + (report 800000001).loose ∧
      rest.conveyor.housing + (report 400000000).loose ≤ rest.setup.conveyor.housingLimit * 500000 ∧
      rest.conveyor.housingHeld = false ∧ 0 < rest.setup.conveyor.capacity ∧
      rest.conveyor.totalCut + (report 800000001).loose < 2 ^ 63 := by decide

theorem witness_BeltInterval :
    rest.conveyor.totalDelivered + min rest.conveyor.housing 6000000 < 2 ^ 63 ∧
      (loading rest).conveyor.truck = .loading ∧ rest.conveyor.truck = .noTruck ∧
      (rest.setConveyor { rest.conveyor with flashTimer := true }).conveyor.flashTimer = true := by decide

theorem witness_TruckSettles :
    (rest.setConveyor { rest.conveyor with settleTimer := some 3 }).conveyor.settleTimer = some 3 ∧
      rest.setup.truck.margin < rest.setup.truck.target := by decide

theorem witness_SetBeltMode :
    (Accepting rest ∧ BeltMode.ofCode (2#8).toNat = some .stop) ∧
      (rest.advance.holds.startup = none ∧ rest.conveyor.stopSense = false ∧
        BeltMode.ofCode (1#8).toNat = some .manual ∧ 100 < (101#16).toNat ∧
        BeltMode.ofCode (0#8).toNat = some .auto) := by decide

theorem witness_TruckTarget :
    Accepting (loading rest) ∧ (loading rest).conveyor.truck = .loading ∧
      2000 * 1000000 ≤ ((loading rest).conveyor.current.map Truck.delivered).getD 0 ∧
      (loading rest).conveyor.current.isSome = true := by decide

theorem witness_RecordAndTotals :
    (rest.setConveyor { rest.conveyor with log :=
        [{ number := 1, arrival := 0, departure := 5, litres := 9, remainder := 0, endReason := .full,
           loss := false }] }).conveyor.log ≠ [] ∧ rest.conveyor.housing < 1000000 * 2 ^ 32 := by decide

/-- BREACH and PROGRAM_END held. -/
def latched : State :=
  { rest with advance := { rest.advance with
      holds := ((PerReason.fill none).set .breach (some 0)).set .programEnd (some 0), speedCap := 0 } }

theorem witness_ReleaseHold :
    (Accepting rest ∧ 7 < (8#8).toNat ∧ (7#8).toNat ≤ 7 ∧ rest.advance.holds.breach = none ∧
      rest.advance.holds.programEnd = none) ∧
    latched.advance.holds.breach ≠ none ∧ latched.advance.holds.programEnd ≠ none := by decide

/-- The stop sense loop open for the third sample in a row, the other contacts at their accepted levels. -/
def stopping : State :=
  { rest with inputs :=
      { rest.inputs with stopSense := { accepted := .inactive, run := 2, last := some true } } }

theorem witness_SwitchSample :
    (stopping.inputs.get .stopSense).accepted = .inactive ∧ (stopping.inputs.get .stopSense).run + 1 = 3 ∧
      (stopping.inputs.get .presence).last = none := by decide

/-- Measurements at both thresholds and one tenth beyond each. -/
theorem witness_SupplyMeasurement :
    rest.store.phase ≠ .load ∧ rest.setup.limits.pair.lower = 180 ∧ rest.setup.limits.pair.upper = 195 ∧
      min 400 (18000 / 100) = 180 ∧ min 400 (17999 / 100) = 179 ∧ min 400 (19599 / 100) = 195 ∧
      min 400 (19600 / 100) = 196 ∧ rest.supply.state ≠ .low ∧
      (rest.setSupply { rest.supply with state := .low }).supply.state = .low ∧
      State.reset.supply.state = .start := by decide

/-- The receiver in a state. -/
def receiving (r : Receiver) : State := { rest with link := { rest.link with rx := r } }

set_option maxRecDepth 4000 in
theorem witness_Receiver :
    (receiving .length).link.rx = .length ∧ (240#8).toNat ≤ 240 ∧ 240 < (241#8).toNat ∧
      (receiving (.held 0x71 1 [])).link.rx = .held 0x71 1 [] ∧
      (receiving (.check 0x71 1 [] (some 0))).link.rx = .check 0x71 1 [] (some 0) ∧
      u16 0 0 ≠ crc16 (checkedBytes 0x71 1 []) ∧ Listening rest ∧ (0x02#8).toNat ∉ requestKinds := by decide

/-- Two notices wait at equal levels: the lower class number goes first. -/
def waiting : State :=
  { sending rest with notices := { rest.notices with
      pending := ((PerClass.fill none).set .housingHigh
        (some { station := 1, detail := .housingHigh 801 800, repeated := false })).set .programEnd
        (some { station := 2, detail := .programEnd 1 2 false, repeated := false }) } }

theorem witness_Transmitter :
    waiting.link.tx ≠ .idle ∧ waiting.link.slot = none ∧ waiting.notices.pending.housingHigh.isSome = true ∧
      waiting.setup.levels.housingHigh = waiting.setup.levels.programEnd ∧ waiting.setup.levels.housingHigh < 3 ∧
      classNumber .housingHigh < classNumber .programEnd ∧
      NoticeClass.all.filter (fun c => (waiting.notices.pending.get c).isSome) = [.housingHigh, .programEnd] ∧
      NoticeClass.all.all (fun c => (rest.notices.pending.get c).isNone) = true ∧
      ((sending rest).setLink { (sending rest).link with slot := some someReply }).link.slot = some someReply := by decide

theorem witness_LinkReset : Listening transferring ∧ transferring.store.storing = none := by decide

def geometryWire : GeometryWire := { factorySetup.geometry.wire with width := 499, pulses := 20001 }

set_option maxRecDepth 4000 in
theorem witness_GuardedGroups :
    (Accepting (scanning .stopped) ∧ NoAuto (scanning .stopped) ∧ (scanning .stopped).scanner.state = .stopped) ∧
    (firstBad (geometryChecks geometryWire) = none ∧
      (geometryOfWire geometryWire).map (fun g => (geometryRefusal fitted g).isNone) = some true ∧
      (∀ q ∈ slotFields 7 1 geometryWire.refSlots.toList ++ slotFields 12 1 geometryWire.farSlots.toList, q.2 = true)) ∧
    (ChannelKind.ofCode (head .distance).wire.kind.toNat = some .distance) ∧
    (∀ q ∈ slotFields 3 1 fitted.scan.slots.toList, q.2 = true) ∧
      TriggerMode.ofCode fitted.scan.wire.mode.toNat = some .distance ∧ fitted.scan.list.Nodup ∧
      (fitted.channels.get 0).kind ≠ .noHead := by
  decide

theorem witness_OtherGroups :
    (LowWater.ofCode (2#8).toNat = some .thirtyTwo ∧ (sending rest).link.tx ≠ .idle) ∧
    (max 100 (min 800 (99#16).toNat) < max 200 (min 1500 (1501#16).toNat)) ∧
    (FilterPeriod.ofCode (2#8).toNat = some .ms16 ∧ SupplyPair.ofCode (2#8).toNat = some .v9) ∧
    Baud.ofCode (0#8).toNat = some .b57600 := by decide

theorem witness_StoreSetup :
    (Accepting rest ∧ rest.supply.state ≠ .low) ∧
    (rest.setSupply { rest.supply with state := .low }).supply.state = .low ∧
      (rest.setStore { rest.store with storing := some fitted }).store.storing = some fitted := by decide

/-! ## Witnesses of the other clauses of a statement: each form, at the ends of its range -/

theorem programInv_rest : ProgramInv (withProgram rest) :=
  ⟨by decide, by decide, by decide, fun _ h => nomatch h⟩

/-- Ordinary start-up: an IDLE line, no stored copy. -/
theorem witness_SetupLoadIdle :
    LineInv State.reset ∧ State.reset.link.tx = .idle ∧ State.reset.store.phase = .load ∧
      State.reset.store.begun = false ∧ State.reset.store.stored = none :=
  ⟨line_of_quiet _ rfl rfl rfl, by decide⟩

/-- R5's own example: station 0 with f = 150, and f at 100; the top of the range with f + 100 = P - 1. -/
theorem witness_PulsesAtTheEnds :
    (forwardEdge rest.setup.geometry.sense false true false false ∧
      (beforePulse maxStation 899 3 true).travel.edges = 3 ∧ ¬1000 ≤ 899 + 100) ∧
    (forwardEdge rest.setup.geometry.sense false false true false ∧
      (beforePulse 0 150 (-3) false).travel.edges = -3 ∧ ¬150 < 100 ∧ ¬100 < 100) :=
  ⟨⟨by show _ ∈ normalOrder; decide, by decide⟩, by show _ ∈ normalOrder; decide, by decide⟩

/-- Nine segments of 10 cm behind station 90, one pulse before it, and one ahead. -/
def nineBehind : State :=
  { beforePulse 89 900 3 true with program := { rest.program with segments := (List.range 10).map fun n =>
      { id := n + 1, start := 10 * n, length := 10, depth := 400, grade := 0, slope := some 5,
        endStop := false } } }

theorem witness_PulseMovesProgram :
    ProgramInv nineBehind ∧ behindAt nineBehind.program.segments 90 = 9 ∧ nineBehind.program.segments ≠ [] ∧
      1000 ≤ nineBehind.travel.frac + 100 :=
  ⟨⟨by decide, by decide, by decide, fun _ h => nomatch h⟩, by decide⟩

/-- A second segment after a gap of 50 cm. -/
def gapped : State :=
  { rest with program := { rest.program with segments := [someSegment, { someSegment with id := 12, start := 200 }] } }

theorem programInv_gapped : ProgramInv gapped := ⟨by decide, by decide, by decide, fun _ h => nomatch h⟩

theorem witness_Targets :
    positionIn gapped.program.segments 149 = .inside someSegment ∧
      positionIn gapped.program.segments 150 = .gap someSegment 200 ∧
      positionIn gapped.program.segments 199 = .gap someSegment 200 ∧
      positionIn gapped.program.segments 250 = .beyond { someSegment with id := 12, start := 200 } ∧
      positionIn gapped.program.segments 99 = .before ∧ positionIn rest.program.segments 0 = .empty := by decide

/-- GRADE_ONE with a second channel behind an unusable first, GRADE_MEAN, and SLOPE across the drum; a completion
without results leaves each side without a reference. -/
theorem witness_Fusion :
    (controlling.setup.geometry.refMode = .gradeOne ∧ controlling.setup.geometry.refGroup.channels = [0] ∧
      usableValue { controlCompletion with results := [] } .distance 0 = none ∧
      usableValue controlCompletion .distance 0 = some 549) ∧
    (normalStep.setup.geometry.refMode = .gradeMean ∧
      normalStep.setup.geometry.refGroup.channels.filterMap (usableValue normalCompletion .distance) = [549, 546]) ∧
    (normalStep.setup.geometry.farMode = .slope ∧ Side.right ≠ normalStep.setup.geometry.refSide ∧
      usableValue normalCompletion .slope normalStep.setup.geometry.slopeChannel = some (-132) ∧
      ((controlStep normalStep normalCompletion).grade.sides.get .left).reference = true ∧
      (targetAt normalStep normalCompletion.station).isSome = true) ∧
    ((controlStep normalStep { normalCompletion with results := [] }).grade.sides.get .left).reference = false := by
  decide

/-- The step of section 5.9.1 is in approach on the LEFT side alone, with Q 2 and the cap 30 / 2. -/
theorem witness_Approach :
    (tableEntry ∈ normalStep.obstacles ∧ (legOf normalStep .left).mode = .auto ∧
      ((controlStep normalStep normalCompletion).grade.sides.get .left).reference = true) ∧
    tableEntry.approaches .left normalCompletion.speed normalCompletion.station
      ((controlStep normalStep normalCompletion).grade.sides.get .left).target ∧
    ¬tableEntry.approaches .right normalCompletion.speed normalCompletion.station
      ((controlStep normalStep normalCompletion).grade.sides.get .right).target ∧
    15 = max 1 ((normalStep.setup.legs.get .left).rate / tableEntry.q) := by
  refine ⟨by decide, ⟨Or.inl rfl, by decide, ?_, 710, by decide, by decide⟩, ?_, by decide⟩
  · show 121240 < 121400; decide
  · rintro ⟨-, -, -, n, hn, hlt⟩
    rw [show ((controlStep normalStep normalCompletion).grade.sides.get .right).target = some 248 from by decide] at hn
    cases hn; exact absurd hlt (by decide)

/-- A passage that closes unsampled, and an entry whose bound a side inside it exceeds. -/
theorem witness_Passages :
    ({ tableEntry with passage := .closing, watched := true }.passage = .closing ∧
      ¬(tableEntry.start ≤ 121399 ∧ 121399 < tableEntry.start + tableEntry.length) ∧
      ¬(tableEntry.start ≤ 121520 ∧ 121520 < tableEntry.start + tableEntry.length)) ∧
    (tableEntry.start ≤ 121400 ∧ 121519 < tableEntry.start + tableEntry.length ∧ tableEntry.covers .left = true ∧
      tableEntry.cap + tableEntry.tolerance.getD normalStep.setup.control.tolerance <
        (controlStep normalStep { normalCompletion with station := 121400 }).grade.sides.left.depth.toNat) := by
  decide

/-- A side in AUTO that loses its reference on a busy line, and one that has it back. -/
theorem witness_ReferenceLost :
    ((legOf (sending controlling) .left).mode = .auto ∧ (legOf (sending controlling) .right).mode ≠ .auto ∧
      ((controlStep (sending controlling) { controlCompletion with results := [] }).grade.sides.get .left).reference
        = false ∧
      (sending controlling).link.tx ≠ .idle ∧ (sending controlling).setup.levels.referenceLost < 3 ∧
      ∀ d, (controlling.grade.sides.get d).refHold = false) ∧
    (({ controlling with grade := { controlling.grade with sides :=
        ⟨{ GradeSide.reset with refHold := true }, GradeSide.reset⟩ } }).grade.sides.left.refHold = true ∧
      ((controlStep controlling controlCompletion).grade.sides.get .left).reference = true) := by
  refine ⟨⟨by decide, by decide, by decide, by decide, by decide, fun d => ?_⟩, by decide⟩
  cases d <;> rfl

/-- Stations inside, in a gap, beyond and before the list. -/
theorem witness_LocateKinds :
    ProgramInv gapped ∧ gapped.program.segments = [] ++ someSegment :: [{ someSegment with id := 12, start := 200 }] ∧
      someSegment.start ≤ (100#24).toNat ∧
      (∀ h ∈ [{ someSegment with id := 12, start := 200 }], (199#24).toNat < h.start) ∧
      gapped.program.segments = [someSegment] ++ { someSegment with id := 12, start := 200 } :: [] ∧
      200 ≤ (250#24).toNat ∧ (∀ h ∈ gapped.program.segments, (99#24).toNat < h.start) ∧
      gapped.program.segments ≠ [] ∧ rest.program.segments = [] :=
  ⟨programInv_gapped, by decide⟩

/-- A program, an open phase, no reason held, no flag set: the record's values. -/
theorem witness_StatusRecord :
    ProgramInv transferring ∧ transferring.conveyor.housing < 1000000 * 2 ^ 32 ∧
      (∀ g ∈ transferring.program.segments, transferring.travel.station < g.start) ∧
      (∀ r : HoldReason, (0).testBit (holdReasonCode r) = (transferring.advance.holds.get r).isSome) ∧
      (∀ c : NoticeClass, (0).testBit (classNumber c - 1) = transferring.notices.latched.get c) :=
  ⟨⟨by decide, by decide, by decide, fun _ h => by cases h; decide⟩, by decide, by decide,
    fun r => by cases r <;> decide, fun c => by cases c <;> decide⟩

/-- One record for each check of R51, each value one beyond its range, and a record without a phase. -/
theorem witness_SegmentRecordRefused :
    (SegmentWire.segment { nextRecord with id := 0 }).id = 0 ∧
      100000 < (SegmentWire.segment { nextRecord with length := 100001 }).length ∧
      3500 < (SegmentWire.segment { nextRecord with depth := 3501 }).depth ∧
      500 < (SegmentWire.segment { nextRecord with grade := 501 }).grade ∧
      (SegmentWire.segment { nextRecord with slope := 1001 }).slope = some 1001 ∧
      16777215 < (SegmentWire.segment { nextRecord with start := 16777215 }).start + 1 ∧
      (SegmentWire.segment { nextRecord with length := 100, grade := 1 }).endDepth = 3501 ∧
      (SegmentWire.segment { nextRecord with id := 11 }).id = someSegment.id ∧
      (SegmentWire.segment { nextRecord with start := 149 }).start < lastEnd transferring.program.segments ∧
      (SegmentWire.segment nextRecord).start + (SegmentWire.segment nextRecord).length ≤
        (transferring.setTravel { rest.travel with station := 151 }).travel.station ∧
      rest.program.transfer = none ∧ rest.store.storing = none ∧ Listening rest := by decide

/-- An INSIDE entry whose covered side is in AUTO, and one whose uncovered side alone is. -/
theorem witness_ObstacleRemoved :
    ({ tableEntry with state := .inside }.covers .left = true ∧
      (legOf (inMode rest .left .auto) .left).mode = .auto) ∧
    ({ tableEntry with state := .inside, mask := .right }.covers .left = false ∧
      (legOf (inMode rest .left .auto) .right).mode ≠ .auto) := by decide

/-- A belt slow at command 20 with a stall run of 19, and one already STALLED. -/
theorem witness_BeltStall :
    (rest.setConveyor { rest.conveyor with mode := .manual, command := 20, belt := .running, stallRun := 19 }
      ).conveyor.belt ≠ .stalled ∧ (20 : Nat) ≤ 20 ∧ (4 * 4 < 20 ∧ ¬5 * 4 < 20) ∧ (19 : Nat) ≤ 19 ∧
      (rest.setConveyor { rest.conveyor with belt := .stalled }).conveyor.belt = .stalled ∧
      measuredSpeed (rest.setConveyor { rest.conveyor with pulseCount := 0 }).conveyor.pulseCount 1000 = 0 := by
  decide

/-- A truck under the discharge at the target, at the top-off point, and one mm3 short of it; a margin at the
target. -/
theorem witness_TruckChecks :
    ((loading rest).conveyor.truck = .loading ∧ (loading rest).conveyor.current.isSome = true) ∧
      (rest.conveyor.current = none ∧ rest.conveyor.truck ≠ .loading ∧ rest.conveyor.truck ≠ .topOff) ∧
      2000 * 1000000 ≤ 2000000000 ∧ 2500 * 1000000 ≤ 2000000000 + 500 * 1000000 ∧
      1999999999 + 500 * 1000000 < 2500 * 1000000 ∧
      (rest.setup.truck.target ≠ 2000 ∧
        ({ rest.setup.truck with target := 5000, margin := 5000 } : TruckSetup).target * 1000000 ≤
          0 + 5000 * 1000000) := by decide

/-- An input about to be accepted alone, at the other level than the one accepted. -/
def changing (s : State) (k : SwitchInput) (accepted : Level) : State :=
  { s with inputs := s.inputs.set k { accepted := accepted, run := 2, last := none } }

def openContacts : PerInput Bool :=
  { presence := false, leftUpper := false, leftLower := false, rightUpper := false, rightLower := false,
    stopSense := false }

/-- The number of samples in a row that differ from the accepted level, as SwitchSampleFilters names it. -/
def runAt (s : State) (active : Bool) (k : SwitchInput) : Nat :=
  match (s.inputs.get k).accepted with
  | .unknown => if (s.inputs.get k).last = some active then (s.inputs.get k).run + 1 else 1
  | .active => if active then 0 else (s.inputs.get k).run + 1
  | .inactive => if active then (s.inputs.get k).run + 1 else 0

/-- Every lone change: each input about to leave INACTIVE and ACTIVE, no other with a run of 3, in both levels. -/
theorem witness_LoneChanges :
    (SwitchInput.all.all fun k =>
      runAt (changing rest k .inactive) true k == 3 && runAt (changing rest k .active) false k == 3 &&
        SwitchInput.all.all fun j => j == k ||
          [true, false].all fun a => runAt (changing rest k .inactive) a j < 3 &&
            runAt (changing rest k .active) a j < 3) = true := by decide

/-- The states of the lone changes: an output and a jog toward a limit, a truck in each state, a full log. -/
theorem witness_ChangeStates :
    (LineInv (changing driven .leftUpper .inactive) ∧ (legOf (changing driven .leftUpper .inactive) .left).output < 0) ∧
    (rest.conveyor.truck = .noTruck ∧
      (rest.setConveyor { rest.conveyor with truck := .settling }).conveyor.truck = .settling) ∧
    (LineInv (changing (loading rest) .presence .active) ∧
      (changing (loading rest) .presence .active).conveyor.truck = .loading ∧
      (changing (loading rest) .presence .active).conveyor.current =
        some { number := 1, arrival := 0, delivered := 2000000000, endReason := none }) ∧
    (changing rest .stopSense .active).inputs.stopSense.accepted = .active :=
  ⟨⟨line_of_quiet _ rfl rfl rfl, by decide⟩, by decide, ⟨line_of_quiet _ rfl rfl rfl, by decide⟩, by decide⟩

/-- Section 3.4.1: the remaining count after segment 1 has gone, with 9 kept from 99 to 100. -/
theorem test_remainingCount :
    [99, 100, 199, 200, 899, 900].map (remainingCount ((List.range 9).map fun n =>
      { someSegment with id := n + 2, start := 100 * (n + 1), length := 100 })) = [9, 9, 9, 8, 2, 1] := by decide

/-- R44: the kind of the target's answer. -/
theorem test_targetKind :
    (targetAt gapped 150).map Target.kind = some .gap ∧ (targetAt gapped 149).map Target.kind = some .inside ∧
      (targetAt gapped 250).map Target.kind = some .beyond := by decide

/-- Section 6.7: a jog to RAISE at 400 permille answers -400 and 620 mA, with leg and mode (log 42). -/
theorem test_jogReply :
    (after (exec (.jogLeg 0 0 0 400 500) (inMode (withSetup rest { factorySetup with legs :=
        ⟨{ start := 300, maximum := 1100, rate := 1 }, factorySetup.legs.right⟩ }) .left .manual))).link.tx =
      .reply (replyTo 0 (.jogLeg 0 0 400 500)
        (answer .done [u8 0, u8 1, signed2 (-400), field2 620])) := by decide

/-! ## Witnesses of the refusals, and of the clauses that follow a condition where it begins -/

theorem firstBad_at {fields : List (Nat × Bool)} (before after : List (Nat × Bool)) {off : Nat}
    (h : fields = before ++ (off, false) :: after) (hb : ∀ q ∈ before, q.2 = true) : FirstBad fields off :=
  ⟨before, after, h, hb⟩

/-- RUNNING, EMPTY_LIST, an interval of 1 ms for a scan of 4 ms, LEG_AUTO. -/
theorem witness_ScanRefused :
    (Accepting (scanning .armed) ∧ (scanning .armed).scanner.state ≠ .stopped) ∧
    (Accepting rest ∧ rest.scanner.state = .stopped ∧ rest.setup.scan.list = []) ∧
    1 * 1 < scanDuration { fitted with scan := { fitted.scan with mode := .interval, prescaler := 1, period := 1 } } ∧
    ¬NoAuto (inMode (scanning .armed) .left .auto) := by decide

/-- The listed channel faults, recovers, and neither, on a busy line below level 3, and at the end of its list. -/
theorem witness_SamplesTaken :
    ((channelAt .valid 2 0 0).setup.scan.list.Nodup ∧ (channelAt .valid 2 0 0).setup.scan.list = [] ++ 0 :: [] ∧
      (sending (channelAt .valid 2 0 0)).link.tx ≠ .idle ∧
      (channelAt .valid 2 0 0).setup.levels.channelFault < 3 ∧
      (channelAt .fault 3 4 0).setup.levels.channelRecovered < 3) ∧
    EntersFault ((channelAt .valid 2 0 0).scanner.records.get 0) 8 ∧
    ¬EntersFault ((channelAt .valid 1 0 0).scanner.records.get 0) 8 ∧
    Recovers ((channelAt .fault 3 4 0).scanner.records.get 0) 9 ∧
    ¬Recovers ((channelAt .fault 3 3 0).scanner.records.get 0) 4086 := by decide

/-- A pass of one channel whose occurrence is the only one, on a line that never waits. -/
theorem witness_SampleAlone :
    LineInv (channelAt .valid 2 0 0) ∧ (channelAt .valid 2 0 0).setup.scan.list = [0] ∧
      EntersFault ((channelAt .valid 2 0 0).scanner.records.get 0) 8 :=
  ⟨line_of_quiet _ rfl rfl rfl, by decide, by decide⟩

/-- Cut reports with both references, one, the other, and none. -/
theorem witness_VolumeDepth :
    ((controlStep normalStep normalCompletion).grade.sides.left.reference = true ∧
      (controlStep normalStep normalCompletion).grade.sides.right.reference = true) ∧
    ((controlStep controlling controlCompletion).grade.sides.left.reference = true ∧
      (controlStep controlling controlCompletion).grade.sides.right.reference = false) ∧
    ((controlStep controlling { controlCompletion with results := [reading 1 .distance 549] }
        ).grade.sides.left.reference = false ∧
      (controlStep controlling { controlCompletion with results := [reading 1 .distance 549] }
        ).grade.sides.right.reference = true) ∧
    (controlStep controlling { controlCompletion with results := [] }).grade.sides.right.reference = false := by
  decide

/-- A segment that carries no cross-slope, before one that does and behind it. -/
theorem witness_EffectiveSlope :
    (gapped.program.segments = [] ++ someSegment :: ([] ++ { someSegment with id := 12, start := 200 } :: []) ∧
      someSegment.slope = some (-150)) ∧
    ({ someSegment with slope := none }.slope = none ∧ rest.program.base = none ∧
      { rest.program with base := some 5 }.base = some 5) := by decide

theorem witness_QueryRefused :
    Accepting (withProgram rest) ∧ (∀ g ∈ (withProgram rest).program.segments, g.id ≠ (12#16).toNat) ∧
      someSegment.length < (51#24).toNat := by decide

/-- A count of 17, a list of 89 for 16 more, and no phase. -/
theorem witness_LoadRefused :
    16 < (17#8).toNat ∧ (if (0#8).toNat = 0 then 16 else (0#8).toNat) = 16 ∧
      104 < (List.replicate 89 someSegment).length + 16 ∧ (List.replicate 88 someSegment).length + 16 ≤ 104 ∧
      rest.program.transfer = none := by
  refine ⟨by decide, by decide, ?_, ?_, rfl⟩ <;> simp

/-- A phase whose close begins the low-water condition: one segment remains, the threshold is 8, with a frame on the
line and on an IDLE one. -/
theorem witness_LowWaterBegins :
    ProgramInv transferring ∧ transferring.program.lowWater = false ∧
      fewRemain transferring.program.segments transferring.travel.station
        transferring.setup.control.lowWater.segments ∧
      LineInv transferring ∧ (sending transferring).link.tx ≠ .idle ∧ transferring.setup.levels.programLow < 3 :=
  ⟨⟨by decide, by decide, by decide, fun _ h => by cases h; decide⟩, rfl, ⟨by decide, by decide⟩,
    line_of_quiet _ rfl rfl rfl, by decide, by decide⟩

/-- The machine in the gap at 160: a cut at 200 leaves it BEYOND; one at its station is PAST. -/
theorem witness_CutInGap :
    Accepting gapped ∧ ProgramInv gapped ∧ 160 < (200#24).toNat ∧ ¬160 < (160#24).toNat ∧
      positionIn gapped.program.segments 160 = .gap someSegment 200 ∧
      positionIn (cutSegments gapped.program.segments 200) 160 = .beyond someSegment ∧
      ¬NoAuto (inMode gapped .right .auto) :=
  ⟨by decide, programInv_gapped, by decide⟩

/-- The field checks of Add Obstacle, as ObstacleAddedAndRemoved lists them. -/
def entryFields (w : ObstacleWire) : List (Nat × Bool) :=
  [(0, decide (1 ≤ w.id.toNat)), (4, decide (1 ≤ w.length.toNat ∧ w.length.toNat ≤ 5000)),
   (6, decide (w.cap.toNat ≤ 3500)), (8, decide (1 ≤ w.q.toNat ∧ w.q.toNat ≤ 50)),
   (9, decide (1 ≤ w.mask.toNat ∧ w.mask.toNat ≤ 3)),
   (10, decide (w.flags.getLsbD 0 = true → w.tolerance.toNat ≤ 200))]

/-- Every field of an entry one beyond its range, and every other check of R69 at its boundary. -/
theorem witness_AddRefused :
    (FirstBad (entryFields { entryAt 0 with id := 0 }) 0 ∧ FirstBad (entryFields { entryAt 0 with length := 5001 }) 4 ∧
      FirstBad (entryFields { entryAt 0 with cap := 3501 }) 6 ∧ FirstBad (entryFields { entryAt 0 with q := 51 }) 8 ∧
      FirstBad (entryFields { entryAt 0 with mask := 4 }) 9 ∧
      FirstBad (entryFields { entryAt 0 with tolerance := 201 }) 10) ∧
    (∀ q ∈ entryFields (entryAt 0), q.2 = true) ∧
    (16777215 < (16772216#24).toNat + (5000#16).toNat ∧ (16772215#24).toNat + (5000#16).toNat ≤ 16777215 ∧
      (∃ h ∈ (withEntry rest).obstacles, h.id = (7#8).toNat) ∧ 24 ≤ (List.replicate 24 tableEntry).length ∧
      0 + 5000 - 1 + 5000 < 10000 ∧ ∀ h ∈ (withEntry rest).obstacles, h.id ≠ (9#8).toNat) := by
  refine ⟨⟨firstBad_at [] (entryFields (entryAt 0)).tail (by decide) (by decide),
    firstBad_at [(0, true)] ((entryFields (entryAt 0)).drop 2) (by decide) (by decide),
    firstBad_at [(0, true), (4, true)] ((entryFields (entryAt 0)).drop 3) (by decide) (by decide),
    firstBad_at [(0, true), (4, true), (6, true)] ((entryFields (entryAt 0)).drop 4) (by decide) (by decide),
    firstBad_at [(0, true), (4, true), (6, true), (8, true)] ((entryFields (entryAt 0)).drop 5) (by decide)
      (by decide),
    firstBad_at [(0, true), (4, true), (6, true), (8, true), (9, true)] [] (by decide) (by decide)⟩,
    by decide, by decide, by decide, ⟨tableEntry, by decide, by decide⟩, by decide, by decide, by decide⟩

/-- A leg, a mode and a direction one beyond their values; a jog that fails each later check. -/
theorem witness_LegRefused :
    (Accepting rest ∧ 1 < (2#8).toNat ∧ (1#8).toNat ≤ 1 ∧ 3 < (4#8).toNat ∧ 1 < (2#8).toNat) ∧
    ((9#16).toNat < 10 ∧ 2000 < (2001#16).toNat ∧ (legOf rest .left).mode ≠ .manual) ∧
    (State.reset.advance.holds.get .startup ≠ none ∧
      (rest.setLegs { rest.legs with supplyLow := true }).legs.supplyLow = true) ∧
    (legOf (rest.setLegs { rest.legs with legs := ⟨{ Leg.reset with mode := .manual, upper := true }, Leg.reset⟩ })
      .left).upper = true := by decide

/-- With no base station: channel 0 usable makes the LEFT side's reference, in its own mode and with the slope head
across the drum; a STALE one makes none. -/
theorem witness_LiveReference :
    LiveReference (channelAt .valid 0 0 0) .left ∧ ¬LiveReference (channelAt .stale 0 0 0) .left ∧
      rest.grade.base = none ∧
      LiveReference (withSetup { channelAt .valid 0 0 0 with scanner := { (channelAt .valid 0 0 0).scanner with
          records := Octet.fill { ChannelRecord.reset with state := .valid } } }
        { fitted with
          geometry := { fitted.geometry with farMode := .slope, slopeChannel := 1 },
          channels := fitted.channels.set 1 (head .slope),
          scan := { fitted.scan with count := 2, slots := ⟨0, 1, 0, 0, 0, 0, 0, 0⟩ } }) .right := by
  refine ⟨⟨0, by decide, by decide, by decide, Or.inl rfl⟩, ?_, rfl,
    ⟨0, by decide, by decide, by decide, Or.inl rfl⟩, by decide, by decide, Or.inl rfl⟩
  rintro ⟨c, -, hl, -, hs⟩
  have hc : c = 0 := by revert hl; revert c; decide
  subst hc; revert hs; decide

/-- HOUSING held, with H at half the limit and one above it; and not held, one above the limit, where its notice is
sent or left pending. -/
theorem witness_HousingChecks :
    ((rest.setConveyor { rest.conveyor with housingHeld := true }).conveyor.housingHeld = true ∧
      rest.conveyor.housing + (report 400000000).loose ≤ rest.setup.conveyor.housingLimit * 500000 ∧
      ¬rest.conveyor.housing + (report 400000001).loose ≤ rest.setup.conveyor.housingLimit * 500000 ∧
      (rest.setConveyor { rest.conveyor with housing := 400000000, housingHeld := true }).conveyor.housing -
          min 400000000 0 ≤ rest.setup.conveyor.housingLimit * 500000) ∧
    (800000001 < 1000000 * 2 ^ 32 ∧ rest.setup.levels.housingHigh < 3 ∧ (sending rest).link.tx ≠ .idle) ∧
    LineInv rest :=
  ⟨by decide, by decide, line_of_quiet _ rfl rfl rfl⟩

/-- A belt in AUTO with a truck in LOADING and in TOP_OFF, moving, free of every override. -/
theorem witness_BeltFollows :
    ((loading rest).conveyor.mode = .auto ∧ (loading rest).conveyor.truck = .loading ∧
      (loading rest).conveyor.belt ≠ .stalled ∧ (loading rest).conveyor.supplyLow = false ∧
      (loading rest).conveyor.stopSense = false) ∧
    (loadingAt .topOff 38 1).truck = .topOff ∧ (loadingAt .topOff 38 1).belt ≠ .stalled := by decide

/-- Table 7.4 by a report: 38 % cut with H above 0 purges at 40, and 480 mA drive the belt (R133, R134). -/
theorem test_beltFollowsReport :
    (after (exec (.cutReport { report 5616000 with rate := 22464000 }) (loading rest))).conveyor.command = 40 ∧
      (after (exec (.cutReport { report 5616000 with rate := 22464000 }) (loading rest))).conveyor.coil = 480 ∧
      (after (exec (.cutReport { report 5616000 with rate := 22464000 }) (loading rest))).conveyor.belt = .running := by
  decide

theorem witness_BeltModeRefused :
    Accepting rest ∧ 2 < (3#8).toNat ∧ (1#8).toNat < 2 ∧ State.reset.advance.holds.get .startup ≠ none ∧
      (rest.setConveyor { rest.conveyor with stopSense := true }).conveyor.stopSense = true := by decide

theorem witness_TruckRefused :
    Accepting rest ∧ rest.conveyor.truck = .noTruck ∧ rest.conveyor.log = [] ∧
      (rest.setConveyor { rest.conveyor with truck := .full }).conveyor.truck = .full ∧
      (rest.setConveyor { rest.conveyor with truck := .settling }).conveyor.truck = .settling := by decide

/-- An entry around the station whose bound of 220 mm the LEFT side exceeds by 1, and the same side at the bound. -/
theorem witness_BreachHolds :
    BreachHolds { latched with
      obstacles := [{ tableEntry with start := 0, state := .inside }],
      grade := { rest.grade with sides :=
        ⟨{ GradeSide.reset with reference := true, depth := 221 }, GradeSide.reset⟩ } } ∧
    ¬BreachHolds latched ∧ ¬((200 + 20 : Nat) : Int) < 220 :=
  ⟨⟨_, List.mem_cons_self, by decide, by decide, .left, by decide⟩, fun ⟨_, h, _⟩ => (nomatch h), by decide⟩

/-- The frame of Identify, tag 0, up to its last byte. -/
def identifyCheck : BitVec 16 := crc16 (checkedBytes 0x78 0 [])

set_option maxRecDepth 4000 in
/-- A receiver in each state, and the right last byte behind an empty slot and a full one. -/
theorem witness_GoodFrame :
    ((receiving (.kind 0)).link.rx = .kind 0 ∧ (receiving (.tag 0 0x78)).link.rx = .tag 0 0x78 ∧
      (receiving (.body 2 0x78 0 [5])).link.rx = .body 2 0x78 0 [5] ∧
      (receiving (.check 0x78 0 [] none)).link.rx = .check 0x78 0 [] none) ∧
    (u16 (identifyCheck.truncate 8) ((identifyCheck >>> 8).truncate 8) = crc16 (checkedBytes 0x78 0 []) ∧
      (receiving (.check 0x78 0 [] (some (identifyCheck.truncate 8)))).link.slot = none ∧
      ((receiving .hunt).setLink { rest.link with slot := some someReply }).link.slot ≠ none) := by decide

/-- A dispatched frame that is a row, of no request kind, screened BUSY, of no group, and of no request's form. -/
theorem witness_Dispatched :
    ((Instr.identify 0).request? = some (0, .identify) ∧ Request.identify.kind = 0x78#8 ∧
      Request.identify.body = [] ∧ (0x02#8).toNat ∉ requestKinds) ∧
    (ScreenedBusy transferring 0x01#8 ∧ ¬ScreenedBusy rest 0x01#8 ∧ ¬ScreenedBusy transferring 0x21#8) ∧
    (16 < (17#8).toNat ∧ Unscreened rest ∧ (0x7A#8).toNat ∈ requestKinds) ∧
    (wholeRequest 0x78 [0]).isNone = true := by
  refine ⟨by decide, ⟨Or.inr (by decide), ?_, ?_⟩, by decide, by decide⟩
  · rintro (⟨h, -⟩ | ⟨h, -⟩) <;> revert h <;> decide
  · rintro (⟨h, -⟩ | ⟨-, h⟩) <;> revert h <;> decide

/-- A request held behind the reply that now goes on the line, its frame counted past the wrap. -/
theorem witness_HeldRequest :
    ((sending (receiving (.held 0x78 0 []))).setLink
        { (sending (receiving (.held 0x78 0 []))).link with slot := some someReply }).link.slot = some someReply ∧
      (sending (receiving (.held 0x78 0 []))).link.tx ≠ .idle ∧
      (sending (receiving (.held 0x78 0 []))).link.rx = .held 0x78 0 [] ∧
      (sending (receiving (.held 0x78 0 []))).link.counters.good = (65535 + 1) % 65536 ∧
      (receiving .hunt).store.phase ≠ .load := by decide

/-- A GEOMETRY that fails each later check, and list slots at and beyond their count. -/
theorem witness_GeometryRefused :
    (¬NoAuto (inMode (scanning .stopped) .left .auto) ∧ (scanning .armed).scanner.state ≠ .stopped) ∧
    (slotFields 7 1 [8#8, 0] = [(7, false), (8, true)] ∧ slotFields 12 1 [7#8, 255] = [(12, true), (13, true)]) ∧
    (SideMode.ofCode (2#8).toNat = some .slope ∧ (factorySetup.channels.get 0).kind ≠ .distance ∧
      (fitted.channels.get 7).kind ≠ .slope ∧
      ¬({ count := 2, slots := ⟨0, 0, 0, 0⟩ } : ChannelGroup).channels.Nodup) := by decide

/-- A side byte of 2 is the first bad field of a GEOMETRY, a mode byte of 2 of a SCAN. -/
theorem witness_FieldRefused (rest' : List (Nat × Bool)) :
    FirstBad ((3, decide ((2#8).toNat ≤ 1)) :: rest') 3 ∧ FirstBad ((1, decide ((2#8).toNat ≤ 1)) :: rest') 1 :=
  ⟨firstBad_at [] rest' (by simp) nofun, firstBad_at [] rest' (by simp) nofun⟩

/-- A CHANNEL and a SCAN that would leave a listed channel of kind NONE, and a list that names one twice. -/
theorem witness_ListRefused :
    (ChannelKind.ofCode (0#8).toNat = some .noHead ∧ 0 ∈ fitted.scan.list ∧ 1 ∉ fitted.scan.list ∧
      2 < (3#8).toNat) ∧
    ({ fitted.scan with count := 2 } : ScanSetup).list = [0, 0] ∧ (factorySetup.channels.get 0).kind = .noHead := by
  decide

/-- A CONTROL write that begins the low-water condition, and bytes one beyond each enumerated field's values. -/
theorem witness_OtherRefused :
    (LowWater.ofCode (0#8).toNat = some .two ∧ fewRemain (withProgram rest).program.segments 0 LowWater.two.segments ∧
      (withProgram rest).program.lowWater = false) ∧
    2 < (3#8).toNat ∧ max 200 (min 1500 (800#16).toNat) ≤ max 100 (min 800 (801#16).toNat) :=
  ⟨⟨rfl, ⟨by decide, by decide⟩, rfl⟩, by decide, by decide⟩

end Sys2Proof.Tests
end

section
/-! What the scanner does with a trigger: R26's drop, the cells of R22's table, and the command that takes the
trigger record. -/

namespace Sys2Proof.Machine

open Sys2Proof

/-- The invariant of the line reads the link, the notices and the setup alone. -/
theorem LineInv.of_blocks {s t : State} (h : LineInv s) (hlink : t.link = s.link)
    (hnotices : t.notices = s.notices) (hstore : t.store = s.store) : LineInv t := by
  unfold LineInv State.setup
  rw [hlink, hnotices, hstore]
  exact h

/-- A drop is counted, and its SCAN_OVERRUN carries the live station (R26). -/
theorem dropTrigger_eq (s : State) (k : TriggerKind) (h : LineInv s) :
    dropTrigger s k =
      (s.setScanner { s.scanner with dropped := (s.scanner.dropped + 1) % 65536 }).occurred
        .scanOverrun s.travel.station (.scanOverrun k s.scanner.state) :=
  post_eq (s.setScanner _) _ _ (h.of_blocks rfl rfl rfl)

section
variable {s : State} {k : TriggerKind} {x : Nat}

theorem takeTravelTrigger_of_stopped (h : s.scanner.state = .stopped) : takeTravelTrigger s k x = s := by
  simp [takeTravelTrigger, h]

theorem takeTravelTrigger_of_armed (h : s.scanner.state = .armed) :
    takeTravelTrigger s k x = startScan s k x := by
  simp [takeTravelTrigger, h]

theorem takeTravelTrigger_distance_of_parked (h : s.scanner.state = .parked) :
    takeTravelTrigger s .distance x = enterSettling s := by
  simp [takeTravelTrigger, h]

theorem takeTravelTrigger_standstill_of_parked (h : s.scanner.state = .parked) :
    takeTravelTrigger s .standstill x = s := by
  simp [takeTravelTrigger, h]

theorem takeTravelTrigger_of_dropping
    (h : s.scanner.state = .settling ∨ s.scanner.state = .scanning ∨ s.scanner.state = .single) :
    takeTravelTrigger s k x = dropTrigger s k := by
  obtain h | h | h := h <;> simp [takeTravelTrigger, h]

theorem takeTrigger_of_intervalMode (h : s.setup.scan.mode = .interval) : takeTrigger s k x = s := by
  simp [takeTrigger, h]

/-- In DISTANCE mode the state decides, for each of the two kinds the Travel Counter issues (R22). -/
theorem takeTrigger_of_distanceMode (h : s.setup.scan.mode = .distance) (hk : k ≠ .interval) :
    takeTrigger s k x = takeTravelTrigger s k x := by
  cases k with
  | distance => simp [takeTrigger, h]
  | standstill => simp [takeTrigger, h]
  | interval => exact absurd rfl hk

/-- In INTERVAL mode the command takes its record out of the events in flight and does no more (R22). -/
theorem exec_triggerTaken_of_intervalMode (h : s.setup.scan.mode = .interval) :
    exec (.triggerTaken k x) s = .next (takeHanded s (.triggerTaken k x)) :=
  congrArg Host.Outcome.next (takeTrigger_of_intervalMode (s := takeHanded s _) h)

/-- In DISTANCE mode the command takes its record out of the events in flight, and acts as the cell of R22's
table for that state does. -/
theorem exec_triggerTaken_of_distanceMode {t : State} (h : s.setup.scan.mode = .distance) (hk : k ≠ .interval)
    (ht : takeTravelTrigger (takeHanded s (.triggerTaken k x)) k x = t) :
    exec (.triggerTaken k x) s = .next t :=
  congrArg Host.Outcome.next ((takeTrigger_of_distanceMode (s := takeHanded s _) h hk).trans ht)

end

/-- Settles O20, cell by cell of R22's table. -/
theorem travelTriggerByState : Obligations.TravelTriggerByState := by
  unfold Obligations.TravelTriggerByState
  rintro k x s u hk rfl
  refine ⟨exec_triggerTaken_of_intervalMode, fun hmode => ⟨?ignored, fun harmed => ?starts, ?wakes,
    fun hdrop hline => ?drops⟩⟩
  case ignored =>
    rintro (hstopped | ⟨hparked, rfl⟩)
    · exact exec_triggerTaken_of_distanceMode hmode hk (takeTravelTrigger_of_stopped hstopped)
    · exact exec_triggerTaken_of_distanceMode hmode hk (takeTravelTrigger_standstill_of_parked hparked)
  case starts =>
    exact exec_triggerTaken_of_distanceMode hmode hk (takeTravelTrigger_of_armed harmed)
  case wakes =>
    rintro ⟨hparked, rfl⟩
    exact exec_triggerTaken_of_distanceMode hmode hk (takeTravelTrigger_distance_of_parked hparked)
  case drops =>
    have hline' : LineInv (takeHanded s (.triggerTaken k x)) := hline.of_blocks rfl rfl rfl
    exact exec_triggerTaken_of_distanceMode hmode hk
      ((takeTravelTrigger_of_dropping (s := takeHanded s _) hdrop).trans (dropTrigger_eq _ _ hline'))

end Sys2Proof.Machine
end

section
/-! The status requests: they pass the screen in every state, and differ in the latched flags alone. -/

namespace Sys2Proof.Machine

open Sys2Proof

/-- A request frame that the screen passes at a listening link is taken and answered by its owner, an open
transfer phase or a store in flight included (R172 to R175). -/
theorem arrive_of_screened (s : State) (tag : Byte) (r : Request) (hs : Listening s)
    (hscreen : screenKind s r.kind = none) (hr : r ≠ .linkReset) :
    arrive tag r s = respond r.kind tag (takeRequest r) (countGood s) := by
  obtain ⟨hphase, hrx, hslot⟩ := hs
  have hscreen' : screenKind (countGood s) r.kind = none := hscreen
  unfold arrive arriveFrame
  simp only [hphase, hrx, hslot, if_false]
  unfold serveRequest
  rw [hscreen']
  cases r with
  | linkReset => exact absurd rfl hr
  | _ => rfl

/-- A screened request whose owner leaves the link alone: the owner's effect, and the link as `answered`
gives it. -/
theorem arrive_quiet_of_screened (s : State) (tag : Byte) (r : Request) (hs : Listening s)
    (hscreen : screenKind s r.kind = none) (hr : r ≠ .linkReset)
    (hlink : (takeRequest r (countGood s)).1.link = (countGood s).link) :
    arrive tag r s =
      (takeRequest r (countGood s)).1.setLink
        (s.link.answered (replyTo tag r (takeRequest r (countGood s)).2)) := by
  rw [arrive_of_screened s tag r hs hscreen hr, respond_quiet _ _ _ _ hlink]
  rfl

/-- The screen passes a request of a kind that both a store in flight and an open transfer phase let through
(R174). -/
theorem screenKind_of_passes (s : State) (r : Request) (hstore : passesStore r.kind = true)
    (htransfer : passesTransfer r.kind = true) : screenKind s r.kind = none := by
  simp [screenKind, isRequestKind_kind, hstore, htransfer]

/-- The record reads no state of the link, so the count of the request's own frame does not show in it
(R169). -/
theorem statusFields_countGood (s : State) : statusFields (countGood s) = statusFields s := rfl

/-- Peek Status answers with the record and changes the link alone (R168). -/
theorem exec_peekStatus_eq (s : State) (tag : Byte) (hs : Listening s) :
    exec (.peekStatus tag) s =
      .next { s with
        link := s.link.answered (replyTo tag .peekStatus (answer .done (statusFields s))) } := by
  have hscreen : screenKind s Request.peekStatus.kind = none := screenKind_of_passes s _ rfl rfl
  rw [← statusFields_countGood s]
  exact congrArg Host.Outcome.next (arrive_quiet_of_screened s tag .peekStatus hs hscreen nofun rfl)

/-- Read Status answers with the record, and changes the latched flags beside the link (R167). -/
theorem exec_readStatus_eq (s : State) (tag : Byte) (hs : Listening s) :
    exec (.readStatus tag) s =
      .next { s with
        notices := { s.notices with latched := relatch s },
        link := s.link.answered (replyTo tag .readStatus (answer .done (statusFields s))) } := by
  have hscreen : screenKind s Request.readStatus.kind = none := screenKind_of_passes s _ rfl rfl
  rw [← statusFields_countGood s]
  exact congrArg Host.Outcome.next (arrive_quiet_of_screened s tag .readStatus hs hscreen nofun rfl)

/-- Settles O29: both requests answer with the record of the state that their frame finds. -/
theorem peekStatusChangesNothing : Obligations.PeekStatusChangesNothing := by
  unfold Obligations.PeekStatusChangesNothing
  intro tag s hs
  exact ⟨statusFields s, exec_peekStatus_eq s tag hs, _, exec_readStatus_eq s tag hs, rfl⟩

end Sys2Proof.Machine
end

section
/-! Occurrences in a row. What a command posts is one list of occurrences, and what the line and the Notice Unit
hold after it follows from that list alone. -/

namespace Sys2Proof.Machine

open Sys2Proof

/-- One occurrence that a block posts: its class, its station and its detail (R165). -/
structure Occurrence where
  cls : NoticeClass
  station : Nat
  detail : NoticeDetail

/-- Occurrences posted one after another. -/
def postAll (s : State) (l : List Occurrence) : State :=
  l.foldl (fun s o => postAt s o.cls o.station o.detail) s

@[simp] theorem postAll_nil (s : State) : postAll s [] = s := (rfl)

@[simp] theorem postAll_cons (s : State) (o : Occurrence) (l : List Occurrence) :
    postAll s (o :: l) = postAll (postAt s o.cls o.station o.detail) l := (rfl)

theorem postAll_append (s : State) (l m : List Occurrence) :
    postAll s (l ++ m) = postAll (postAll s l) m := List.foldl_append

/-- Two states with the same line: the same link, notices and levels. -/
structure SameLine (s t : State) : Prop where
  link : t.link = s.link
  notices : t.notices = s.notices
  levels : t.setup.levels = s.setup.levels

theorem SameLine.refl (s : State) : SameLine s s := ⟨rfl, rfl, rfl⟩

/-- The levels do not change with an occurrence. -/
@[simp] theorem postAt_levels (s : State) (c : NoticeClass) (x : Nat) (d : NoticeDetail) :
    (postAt s c x d).setup.levels = s.setup.levels := by
  simp [State.setup]

@[simp] theorem postAll_store (s : State) (l : List Occurrence) : (postAll s l).store = s.store := by
  induction l generalizing s with
  | nil => rfl
  | cons o l ih => simp [ih]

@[simp] theorem postAll_levels (s : State) (l : List Occurrence) :
    (postAll s l).setup.levels = s.setup.levels := by
  simp [State.setup]

/-- The urgency of the pending notices depends on the notices and the levels. -/
theorem mostUrgent_congr {s t : State} (h : SameLine s t) : mostUrgent t = mostUrgent s := by
  have hb : betterNotice t = betterNotice s := by
    funext best c
    unfold betterNotice levelOf
    rw [h.notices, h.levels]
  simp only [mostUrgent, hb]

/-- What an occurrence does to the line depends on the line alone. -/
theorem postAt_congr {s t : State} (h : SameLine s t) (c : NoticeClass) (x : Nat) (d : NoticeDetail) :
    SameLine (postAt s c x d) (postAt t c x d) := by
  have ho : SameLine (takeOccurrence s c x d) (takeOccurrence t c x d) :=
    ⟨by simpa using h.link, by unfold takeOccurrence levelOf; rw [h.notices, h.levels]; rfl,
      by simpa [State.setup] using h.levels⟩
  refine ⟨?_, ?_, by simpa using h.levels⟩ <;>
  · unfold postAt arbitrate offerNotice
    rw [mostUrgent_congr ho]
    simp only [takeOccurrence_frame, h.link]
    rw [ho.notices]
    split
    · split
      · simp [ho.notices]
      · split
        · simp [h.link, ho.notices]
        · split
          · simp only [sendNotice, levelOf, ho.levels, ho.notices, ho.link, State.setLink_link,
              State.setLink_notices, State.setNotices_notices]
          · simp [h.link, ho.notices]
    · simp [h.link, ho.notices]

theorem postAll_congr {s t : State} (h : SameLine s t) (l : List Occurrence) :
    SameLine (postAll s l) (postAll t l) := by
  induction l generalizing s t with
  | nil => exact h
  | cons o l ih => exact ih (postAt_congr h _ _ _)

/-- From s to t the line takes the occurrences l, in their order, and nothing else. -/
def Posted (s t : State) (l : List Occurrence) : Prop := SameLine (postAll s l) t

theorem SameLine.trans {s t u : State} (h : SameLine s t) (k : SameLine t u) : SameLine s u :=
  ⟨k.link.trans h.link, k.notices.trans h.notices, k.levels.trans h.levels⟩

/-- Nothing is posted where the line stays the same. -/
theorem Posted.nothing {s t : State} (hl : t.link = s.link) (hn : t.notices = s.notices)
    (hv : t.setup.levels = s.setup.levels) : Posted s t [] := ⟨hl, hn, hv⟩

theorem Posted.refl (s : State) : Posted s s [] := SameLine.refl s

theorem Posted.trans {s t u : State} {l m : List Occurrence} (h : Posted s t l) (k : Posted t u m) :
    Posted s u (l ++ m) := by
  unfold Posted
  rw [postAll_append]
  exact (postAll_congr h m).trans k

/-- An operation that leaves the line alone may follow. -/
theorem Posted.after {s t u : State} {l : List Occurrence} (h : Posted s t l) (hl : u.link = t.link)
    (hn : u.notices = t.notices) (hv : u.setup.levels = t.setup.levels) : Posted s u l := by
  simpa using h.trans (Posted.nothing hl hn hv)

/-- An operation that leaves the line alone may come before. -/
theorem Posted.before {s t u : State} {l : List Occurrence} (h : Posted t u l) (hl : t.link = s.link)
    (hn : t.notices = s.notices) (hv : t.setup.levels = s.setup.levels) : Posted s u l := by
  simpa using (Posted.nothing hl hn hv).trans h

theorem Posted.postAt (s : State) (c : NoticeClass) (x : Nat) (d : NoticeDetail) :
    Posted s (Machine.postAt s c x d) [⟨c, x, d⟩] := SameLine.refl _

theorem Posted.post (s : State) (c : NoticeClass) (d : NoticeDetail) :
    Posted s (Machine.post s c d) [⟨c, s.travel.station, d⟩] := SameLine.refl _

/-! ## The flags -/

/-- Handing a notice to the transmitter leaves the flags. -/
@[simp] theorem arbitrate_latched (s : State) : (arbitrate s).notices.latched = s.notices.latched := by
  unfold arbitrate offerNotice sendNotice
  split
  · split
    · simp
    · split
      · simp
      · split <;> simp
  · simp

/-- An occurrence sets the flag of its class and no other (R165). -/
theorem postAt_latched (s : State) (c k : NoticeClass) (x : Nat) (d : NoticeDetail) :
    (postAt s c x d).notices.latched.get k = (s.notices.latched.get k || decide (c = k)) := by
  simp only [postAt, arbitrate_latched, takeOccurrence, State.setNotices_notices]
  by_cases h : c = k
  · subst h; simp
  · simp [PerClass.get_set_ne _ _ _ _ h, h]

/-- The flags after a list of occurrences: those of its classes are set. -/
theorem Posted.latched {s t : State} {l : List Occurrence} (h : Posted s t l) (c : NoticeClass) :
    t.notices.latched.get c = (s.notices.latched.get c || l.any fun o => decide (o.cls = c)) := by
  rw [h.notices]
  clear h
  induction l generalizing s with
  | nil => simp
  | cons o l ih => rw [postAll_cons, ih, postAt_latched, List.any_cons, Bool.or_assoc]

/-! ## A busy line -/

/-- With a frame on the line an occurrence leaves the link alone (R176). -/
theorem postAt_busy (s : State) (c : NoticeClass) (x : Nat) (d : NoticeDetail) (h : s.link.tx ≠ .idle) :
    postAt s c x d = takeOccurrence s c x d := arbitrate_busy _ h

theorem postAll_busy_link {s : State} (hb : s.link.tx ≠ .idle) (l : List Occurrence) :
    (postAll s l).link = s.link := by
  induction l generalizing s with
  | nil => rfl
  | cons o l ih =>
    have hb' : (postAt s o.cls o.station o.detail).link = s.link := by rw [postAt_busy _ _ _ _ hb]; simp
    rw [postAll_cons, ih (hb'.symm ▸ hb), hb']

theorem Posted.busy_link {s t : State} {l : List Occurrence} (h : Posted s t l) (hb : s.link.tx ≠ .idle) :
    t.link = s.link := h.link.trans (postAll_busy_link hb l)

theorem takeOccurrence_pending_ne (s : State) {c k : NoticeClass} (x : Nat) (d : NoticeDetail) (h : c ≠ k) :
    (takeOccurrence s c x d).notices.pending.get k = s.notices.pending.get k := by
  simp only [takeOccurrence, State.setNotices_notices]
  split
  · exact PerClass.get_set_ne _ _ _ _ h
  · rfl

/-- A class that stands at level 3 gets no notice (R164). -/
theorem takeOccurrence_pending_silent (s : State) (c : NoticeClass) (x : Nat) (d : NoticeDetail)
    (h : 3 ≤ s.setup.levels.get c) : (takeOccurrence s c x d).notices.pending = s.notices.pending := by
  have : ¬levelOf s c < 3 := by unfold levelOf; omega
  simp [takeOccurrence, this]

theorem takeOccurrence_pending_self (s : State) (c : NoticeClass) (x : Nat) (d : NoticeDetail)
    (h : s.setup.levels.get c < 3) :
    (takeOccurrence s c x d).notices.pending.get c =
      some { station := x, detail := d, repeated := (s.notices.pending.get c).isSome } := by
  have : levelOf s c < 3 := h
  simp [takeOccurrence, this, coalesce]

/-- Behind a frame on the line the notices of classes that the list does not name, or that stand at level 3,
are as they were. -/
theorem postAll_busy_pending_other {s : State} (hb : s.link.tx ≠ .idle) (l : List Occurrence) (c : NoticeClass)
    (hc : 3 ≤ s.setup.levels.get c ∨ ∀ o ∈ l, o.cls ≠ c) :
    (postAll s l).notices.pending.get c = s.notices.pending.get c := by
  induction l generalizing s with
  | nil => rfl
  | cons o l ih =>
    have hp : (takeOccurrence s o.cls o.station o.detail).notices.pending.get c = s.notices.pending.get c := by
      by_cases he : o.cls = c
      · have h3 := hc.resolve_right fun h => h o (by simp) he
        rw [takeOccurrence_pending_silent _ _ _ _ (he ▸ h3)]
      · exact takeOccurrence_pending_ne _ _ _ he
    rw [postAll_cons, postAt_busy _ _ _ _ hb, ih (by simpa using hb), hp]
    exact hc.imp (by simp [State.setup]) (fun h o ho => h o (by simp [ho]))

theorem Posted.busy_pending_other {s t : State} {l : List Occurrence} (h : Posted s t l)
    (hb : s.link.tx ≠ .idle) {c : NoticeClass} (hc : 3 ≤ s.setup.levels.get c ∨ ∀ o ∈ l, o.cls ≠ c) :
    t.notices.pending.get c = s.notices.pending.get c := by
  rw [h.notices, postAll_busy_pending_other hb l c hc]

/-- Behind a frame on the line the last occurrence of a class below level 3 gives its notice (R165). -/
theorem Posted.busy_pending_last {s t : State} {before after : List Occurrence} {o : Occurrence}
    (h : Posted s t (before ++ o :: after)) (hb : s.link.tx ≠ .idle) (hl : s.setup.levels.get o.cls < 3)
    (ha : ∀ p ∈ after, p.cls ≠ o.cls) :
    t.notices.pending.get o.cls =
      some { station := o.station, detail := o.detail,
             repeated := ((postAll s before).notices.pending.get o.cls).isSome } := by
  have hb' : (postAll s before).link.tx ≠ .idle := by rwa [postAll_busy_link hb]
  rw [h.notices, postAll_append, postAll_cons, postAt_busy _ _ _ _ hb',
    postAll_busy_pending_other (by simpa using hb') after _ (.inr ha),
    takeOccurrence_pending_self _ _ _ _ (by simpa using hl)]

/-! ## A line that never waits -/

/-- An occurrence of a class at level 3 leaves the link and the pending set of a line that never waits (R164). -/
theorem occurred_silent (s : State) (c : NoticeClass) (x : Nat) (d : NoticeDetail)
    (h : 3 ≤ s.setup.levels.get c) :
    (s.occurred c x d).link = s.link ∧ (s.occurred c x d).notices.pending = s.notices.pending := by
  have h' : ¬s.setup.levels.get c < 3 := by omega
  simp [State.occurred, Notices.occurred, Link.occurred, SentAtOnce, h, h']

/-- The line never waits after an occurrence either. -/
theorem lineInv_postAt {s : State} (h : LineInv s) (c : NoticeClass) (x : Nat) (d : NoticeDetail) :
    LineInv (postAt s c x d) := by
  rw [postAt_eq s c x d h]
  obtain ⟨hidle, hheld, hlevel⟩ := h
  by_cases h3 : 3 ≤ s.setup.levels.get c
  · obtain ⟨hk, hp⟩ := occurred_silent s c x d h3
    refine ⟨?_, ?_, ?_⟩
    · rw [hk, hp]; exact hidle
    · rw [hk]; exact hheld
    · rw [hp]; exact hlevel
  · have h3' : s.setup.levels.get c < 3 := by omega
    by_cases hb : s.link.tx = .idle
    · refine ⟨?_, ?_, ?_⟩
      · simp [State.occurred, Link.occurred, SentAtOnce, hb, h3']
      · simpa [State.occurred, Link.occurred, SentAtOnce, hb, h3'] using hheld
      · simpa [State.occurred, Notices.occurred, hb, State.setup] using hlevel
    · refine ⟨?_, ?_, ?_⟩
      · simp [State.occurred, Link.occurred, SentAtOnce, hb]
      · simpa [State.occurred, Link.occurred, SentAtOnce, hb] using hheld
      · intro k hk
        by_cases he : c = k
        · subst he; exact h3'
        · have hq : (s.occurred c x d).notices.pending.get k = s.notices.pending.get k := by
            simp only [State.occurred, Notices.occurred, hb, false_or, if_neg h3]
            exact PerClass.get_set_ne _ _ _ _ he
          exact hlevel k (hq ▸ hk)

/-- The line reads the link, the notices and the levels. -/
theorem SameLine.lineInv {s t : State} (h : SameLine s t) (hs : LineInv s) : LineInv t := by
  unfold LineInv
  rw [h.link, h.notices, h.levels]
  exact hs

theorem lineInv_postAll {s : State} (h : LineInv s) (l : List Occurrence) : LineInv (postAll s l) := by
  induction l generalizing s with
  | nil => exact h
  | cons o l ih => exact ih (lineInv_postAt h _ _ _)

theorem Posted.lineInv {s t : State} {l : List Occurrence} (h : Posted s t l) (hs : LineInv s) : LineInv t :=
  SameLine.lineInv h (lineInv_postAll hs l)

/-- A list whose classes all stand at level 3 leaves the link and the pending set (R164). -/
theorem Posted.silent {s t : State} {l : List Occurrence} (h : Posted s t l) (hs : LineInv s)
    (hl : ∀ o ∈ l, 3 ≤ s.setup.levels.get o.cls) :
    t.link = s.link ∧ t.notices.pending = s.notices.pending := by
  rw [h.link, h.notices]
  clear h
  induction l generalizing s with
  | nil => exact ⟨rfl, rfl⟩
  | cons o l ih =>
    obtain ⟨hk, hp⟩ := ih (lineInv_postAt hs o.cls o.station o.detail)
      (fun p hp => by simpa using hl p (by simp [hp]))
    obtain ⟨hk', hp'⟩ := occurred_silent s o.cls o.station o.detail (hl o (by simp))
    rw [postAll_cons, hk, hp, postAt_eq s _ _ _ hs, hk', hp']
    exact ⟨rfl, rfl⟩

/-! ## Lists with one occurrence of a class at the most -/

/-- The occurrences of l are, class by class, those that `told` gives, all at station x. -/
structure Tells (l : List Occurrence) (x : Nat) (told : NoticeClass → Option NoticeDetail) : Prop where
  station : ∀ o ∈ l, o.station = x
  once : (l.map Occurrence.cls).Nodup
  told : ∀ c, told c = (l.find? fun o => decide (o.cls = c)).map Occurrence.detail

theorem Tells.mem {l : List Occurrence} {x : Nat} {told : NoticeClass → Option NoticeDetail}
    (h : Tells l x told) {c : NoticeClass} {d : NoticeDetail} (hd : told c = some d) : ⟨c, x, d⟩ ∈ l := by
  rw [h.told, Option.map_eq_some_iff] at hd
  obtain ⟨⟨k, y, e⟩, ho, rfl⟩ := hd
  have hm := List.mem_of_find?_eq_some ho
  have hk : k = c := by simpa using List.find?_some ho
  have hy : y = x := h.station _ hm
  subst hk hy
  exact hm

theorem Tells.told_of_mem {l : List Occurrence} {x : Nat} {told : NoticeClass → Option NoticeDetail}
    (h : Tells l x told) {o : Occurrence} (ho : o ∈ l) : told o.cls = some o.detail := by
  obtain ⟨before, after, rfl⟩ := List.append_of_mem ho
  have hb : ∀ p ∈ before, p.cls ≠ o.cls := by
    have := h.once
    rw [List.map_append, List.map_cons, List.nodup_append] at this
    exact fun p hp => this.2.2 p.cls (List.mem_map_of_mem hp) o.cls (by simp)
  rw [h.told, List.find?_append, List.find?_eq_none.mpr (by simpa using hb)]
  simp

theorem Tells.none_of_not_mem {l : List Occurrence} {x : Nat} {told : NoticeClass → Option NoticeDetail}
    (h : Tells l x told) {c : NoticeClass} (hc : told c = none) : ∀ o ∈ l, o.cls ≠ c := by
  rintro o ho rfl
  rw [h.told_of_mem ho] at hc
  exact nomatch hc

theorem Tells.flag {l : List Occurrence} {x : Nat} {told : NoticeClass → Option NoticeDetail}
    (h : Tells l x told) (c : NoticeClass) : (l.any fun o => decide (o.cls = c)) = (told c).isSome := by
  rw [h.told, Option.isSome_map, List.isSome_find?]

theorem Tells.eq_nil {l : List Occurrence} {x : Nat} {told : NoticeClass → Option NoticeDetail}
    (h : Tells l x told) (hn : ∀ c, told c = none) : l = [] :=
  List.eq_nil_iff_forall_not_mem.mpr fun o ho => by
    have := h.told_of_mem ho
    rw [hn] at this
    exact nomatch this

/-- A list that tells of one class alone has one occurrence. -/
theorem Tells.eq_singleton {l : List Occurrence} {x : Nat} {told : NoticeClass → Option NoticeDetail}
    (h : Tells l x told) {c : NoticeClass} {d : NoticeDetail} (hd : told c = some d)
    (hn : ∀ k, k ≠ c → told k = none) : l = [⟨c, x, d⟩] := by
  obtain ⟨before, after, rfl⟩ := List.append_of_mem (h.mem hd)
  have hc : ∀ o ∈ before ++ (⟨c, x, d⟩ : Occurrence) :: after, o.cls = c := fun o ho => by
    by_contra hne
    have := h.told_of_mem ho
    rw [hn _ hne] at this
    exact nomatch this
  have honce := h.once
  rw [List.map_append, List.map_cons, List.nodup_append, List.nodup_cons] at honce
  obtain ⟨-, ⟨hafter, -⟩, hbefore⟩ := honce
  have ha : after = [] := List.eq_nil_iff_forall_not_mem.mpr fun o ho =>
    hafter (List.mem_map.mpr ⟨o, ho, hc o (by simp [ho])⟩)
  have hb : before = [] := List.eq_nil_iff_forall_not_mem.mpr fun o ho =>
    hbefore o.cls (List.mem_map_of_mem ho) c (by simp) (hc o (by simp [ho]))
  rw [ha, hb, List.nil_append]

/-- Behind a frame on the line each class told below level 3 leaves its notice. -/
theorem Posted.busy_pending {s t : State} {l : List Occurrence} {x : Nat}
    {told : NoticeClass → Option NoticeDetail} (h : Posted s t l) (hl : Tells l x told)
    (hb : s.link.tx ≠ .idle) (c : NoticeClass) :
    t.notices.pending.get c =
      match told c with
      | none => s.notices.pending.get c
      | some d =>
        if s.setup.levels.get c < 3 then
          some { station := x, detail := d, repeated := (s.notices.pending.get c).isSome }
        else s.notices.pending.get c := by
  cases hd : told c with
  | none => exact h.busy_pending_other hb (.inr (hl.none_of_not_mem hd))
  | some d =>
    by_cases h3 : s.setup.levels.get c < 3
    · obtain ⟨before, after, rfl⟩ := List.append_of_mem (hl.mem hd)
      have honce := hl.once
      rw [List.map_append, List.map_cons, List.nodup_append, List.nodup_cons] at honce
      obtain ⟨-, ⟨hafter, -⟩, hbefore⟩ := honce
      have ha : ∀ p ∈ after, p.cls ≠ c := fun p hp he => hafter (List.mem_map.mpr ⟨p, hp, he⟩)
      have hbe : ∀ p ∈ before, p.cls ≠ c := fun p hp =>
        hbefore p.cls (List.mem_map_of_mem hp) c (by simp)
      have hlast := h.busy_pending_last hb h3 ha
      rw [postAll_busy_pending_other hb before c (.inr hbe)] at hlast
      simpa [h3] using hlast
    · simpa [h3] using h.busy_pending_other hb (.inl (by omega))

/-- What the Notice Unit holds after a command that posts a list with one occurrence of a class at the most. -/
theorem Posted.toTold {s t : State} {l : List Occurrence} {x : Nat} {told : NoticeClass → Option NoticeDetail}
    (h : Posted s t l) (hl : Tells l x told) : Told s t x told where
  latched c := by rw [h.latched, hl.flag]
  pending hb := ⟨h.busy_link hb, h.busy_pending hl hb⟩
  single hs c d hd hn := by
    have hsingle := hl.eq_singleton hd hn
    subst hsingle
    have hp : postAll s [⟨c, x, d⟩] = s.occurred c x d := postAt_eq s c x d hs
    exact ⟨by rw [h.notices, hp]; rfl, by rw [h.link, hp]; rfl⟩
  quiet hn := by
    have hnil := hl.eq_nil hn
    subst hnil
    exact ⟨h.notices, h.link⟩

end Sys2Proof.Machine
end

section
/-! A request answered whose owner posts occurrences: what the reply and its own notices leave on the line. -/

namespace Sys2Proof

/-- A collection over the classes is its members. -/
theorem PerClass.ext_get {α : Type} {p q : PerClass α} (h : ∀ c, p.get c = q.get c) : p = q := by
  have h1 := h .supplyLow
  have h2 := h .stopSense
  have h3 := h .obstacleBreach
  have h4 := h .referenceLost
  have h5 := h .beltStall
  have h6 := h .housingHigh
  have h7 := h .programEnd
  have h8 := h .obstacleUnsampled
  have h9 := h .rampLimited
  have h10 := h .programLow
  have h11 := h .legLimit
  have h12 := h .channelFault
  have h13 := h .channelRecovered
  have h14 := h .programGap
  have h15 := h .scanOverrun
  have h16 := h .truckComplete
  have h17 := h .transferTimeout
  have h18 := h .setupDefaulted
  have h19 := h .segmentDone
  have h20 := h .referenceSwitched
  cases p; cases q
  simp only [PerClass.get] at *
  subst_vars
  rfl

end Sys2Proof

namespace Sys2Proof.Machine

open Sys2Proof

/-- On an IDLE line that never waits, the one occurrence of a list below level 3 is sent at once. -/
theorem Posted.one_loud {s t : State} {before after : List Occurrence} {o : Occurrence}
    (h : Posted s t (before ++ o :: after)) (hs : LineInv s) (hi : s.link.tx = .idle)
    (hl : s.setup.levels.get o.cls < 3) (hb : ∀ p ∈ before, 3 ≤ s.setup.levels.get p.cls)
    (ha : ∀ p ∈ after, 3 ≤ s.setup.levels.get p.cls) :
    t.link =
        { s.link with
          tx := .notice s.link.sequence (s.setup.levels.get o.cls) o.cls
            { station := o.station, detail := o.detail, repeated := false },
          sequence := (s.link.sequence + 1) % 256 } ∧
      t.notices.pending = s.notices.pending := by
  have hq := postAt_eq (postAll s before) o.cls o.station o.detail (lineInv_postAll hs before)
  obtain ⟨hbl, hbp⟩ := Posted.silent (SameLine.refl (postAll s before)) hs hb
  have hlast : Posted (Machine.postAt (postAll s before) o.cls o.station o.detail) t after := by
    unfold Posted at h ⊢
    rwa [postAll_append, postAll_cons] at h
  obtain ⟨hal, hap⟩ := hlast.silent (lineInv_postAt (lineInv_postAll hs before) _ _ _)
    (fun p hp => by simpa using ha p hp)
  rw [hal, hap, hq]
  simp [State.occurred, Notices.occurred, Link.occurred, SentAtOnce, hbl, hbp, hi, hl]

/-- The blocks of w but for the notices and the link are those of u. -/
def OffLine (u w : State) : Prop := w = { u with notices := w.notices, link := w.link }

theorem OffLine.refl (u : State) : OffLine u u := rfl

theorem OffLine.trans {u v w : State} (h : OffLine u v) (k : OffLine v w) : OffLine u w := by
  unfold OffLine at *
  rw [k, h]

/-- An operation that posts changes the notices and the link alone. -/
theorem offLine_postAt (s : State) (c : NoticeClass) (x : Nat) (d : NoticeDetail) :
    OffLine s (postAt s c x d) := by
  have h := postAt_frame s c x d
  unfold OffLine
  generalize postAt s c x d = t at h ⊢
  cases t; cases s
  simp_all

theorem offLine_post (s : State) (c : NoticeClass) (d : NoticeDetail) : OffLine s (post s c d) :=
  offLine_postAt _ _ _ _

/-- What an owner does with a request in the state s whatever the line holds: it posts the occurrences l, leaves
the other blocks as in u, and answers a. -/
structure Owned (take : State → State × Answer) (s u : State) (l : List Occurrence) (a : Answer) : Prop where
  posted : ∀ v, Posted (s.setLink v) (take (s.setLink v)).1 l
  blocks : ∀ v, OffLine u (take (s.setLink v)).1
  answer : ∀ v, (take (s.setLink v)).2 = a

theorem Owned.here {take : State → State × Answer} {s u : State} {l : List Occurrence} {a : Answer}
    (h : Owned take s u l a) : Posted s (take s).1 l ∧ OffLine u (take s).1 ∧ (take s).2 = a :=
  ⟨h.posted s.link, h.blocks s.link, h.answer s.link⟩

/-- A reply placed behind a frame on the line. -/
theorem placeReply_behind {s : State} (r : Reply) (h : s.link.tx ≠ .idle) :
    placeReply s r = s.setLink { s.link with slot := some r } := by
  rw [placeReply_eq]; simp [h]

/-- A reply placed on an IDLE line. -/
theorem placeReply_idle {s : State} (r : Reply) (h : s.link.tx = .idle) :
    placeReply s r = s.setLink { s.link with tx := .reply r, slot := none } := by
  rw [placeReply_eq]; simp [h]

/-- The request's notice goes behind its reply (R176; log 6). -/
theorem respond_replyFirst {kind tag : Byte} {take : State → State × Answer} {s : State}
    (hi : s.link.tx = .idle) (hn : (take s).1.link.tx ≠ .idle) (hf : Config.replyFirst s.freeCount = true) :
    respond kind tag take s =
      ((take (s.setLink { s.link with tx := .reply ⟨kind, tag, (take s).2⟩ })).1.setLink
        { (take (s.setLink { s.link with tx := .reply ⟨kind, tag, (take s).2⟩ })).1.link with
          tx := .reply ⟨kind, tag,
            (take (s.setLink { s.link with tx := .reply ⟨kind, tag, (take s).2⟩ })).2⟩ }).setFreeCount
        (s.freeCount + 1) := by
  simp only [respond, hi, hn, hf, ne_eq, not_false_eq_true, and_self, if_true]

/-- The request's notice goes before its reply (R176; log 6). -/
theorem respond_noticeFirst {kind tag : Byte} {take : State → State × Answer} {s : State}
    (hi : s.link.tx = .idle) (hn : (take s).1.link.tx ≠ .idle) (hf : Config.replyFirst s.freeCount = false) :
    respond kind tag take s =
      (placeReply (take s).1 ⟨kind, tag, (take s).2⟩).setFreeCount (s.freeCount + 1) := by
  simp [respond, hi, hn, hf]

/-- No notice of the request has taken the line: the reply is placed. -/
theorem respond_placed {kind tag : Byte} {take : State → State × Answer} {s : State}
    (h : ¬(s.link.tx = .idle ∧ (take s).1.link.tx ≠ .idle)) :
    respond kind tag take s = placeReply (take s).1 ⟨kind, tag, (take s).2⟩ := by
  simp only [respond, h, if_false]

theorem Owned.respond_blocks {kind tag : Byte} {take : State → State × Answer} {s u : State}
    {l : List Occurrence} {a : Answer} (h : Owned take s u l a) :
    ∃ n k f, respond kind tag take s = { u with notices := n, link := k, freeCount := f } := by
  obtain ⟨-, hu, -⟩ := h.here
  by_cases hc : s.link.tx = .idle ∧ (take s).1.link.tx ≠ .idle
  · obtain ⟨hi, hn⟩ := hc
    cases hf : Config.replyFirst s.freeCount with
    | true =>
      rw [respond_replyFirst hi hn hf, h.blocks _]
      exact ⟨_, _, _, rfl⟩
    | false =>
      rw [respond_noticeFirst hi hn hf, placeReply_behind _ hn, hu]
      exact ⟨_, _, _, rfl⟩
  · rw [respond_placed hc, placeReply_eq, hu]
    exact ⟨_, _, u.freeCount, rfl⟩

/-- A request answered whose owner posts a list with one occurrence of a class at the most. -/
theorem Owned.answeredTold {kind tag : Byte} {take : State → State × Answer} {s u : State}
    {l : List Occurrence} {a : Answer} {x : Nat} {told : NoticeClass → Option NoticeDetail}
    (h : Owned take (countGood s) u l a) (hl : Tells l x told) (hslot : s.link.slot = none) :
    AnsweredTold s (respond kind tag take (countGood s)) ⟨kind, tag, a⟩ x told := by
  obtain ⟨hp, hu, ha⟩ := h.here
  have hinv : LineInv s → LineInv (countGood s) := fun hs => ⟨hs.1, hs.2.1, hs.2.2⟩
  have hcount : (countGood s).link =
      { s.link with counters := { s.link.counters with good := (s.link.counters.good + 1) % 65536 } } := rfl
  -- the owner leaves the link alone: the reply is placed
  have hplaced : (take (countGood s)).1.link = (countGood s).link →
      respond kind tag take (countGood s) = (take (countGood s)).1.setLink (s.link.answered ⟨kind, tag, a⟩) := by
    intro hk
    rw [respond_placed (by rw [hk]; exact fun h => h.2 h.1), placeReply_eq, hk, ha]
    rfl
  refine ⟨fun c => ?latched, fun hb => ?busy, fun hn => ?quiet, fun hs h3 => ?silent,
    fun hs hi c d n hd h3 hothers hnote => ?either⟩
  case latched =>
    have hflag : ∀ v, (take ((countGood s).setLink v)).1.notices.latched.get c =
        (s.notices.latched.get c || (told c).isSome) := fun v => by
      rw [(h.posted v).latched, hl.flag]; rfl
    have hflag' := hflag (countGood s).link
    rw [State.setLink_self] at hflag'
    by_cases hc : (countGood s).link.tx = .idle ∧ (take (countGood s)).1.link.tx ≠ .idle
    · cases hf : Config.replyFirst (countGood s).freeCount with
      | true => rw [respond_replyFirst hc.1 hc.2 hf]; exact hflag _
      | false => rw [respond_noticeFirst hc.1 hc.2 hf, placeReply_eq]; exact hflag'
    · rw [respond_placed hc, placeReply_eq]; exact hflag'
  case busy =>
    have hb' : (countGood s).link.tx ≠ .idle := hb
    rw [hplaced (hp.busy_link hb')]
    exact ⟨rfl, fun c => hp.busy_pending hl hb' c⟩
  case quiet =>
    have hnil := hl.eq_nil hn
    subst hnil
    rw [hplaced hp.link]
    exact ⟨rfl, hp.notices⟩
  case silent =>
    have hsilent := hp.silent (hinv hs) fun o ho => h3 _ (by rw [hl.told_of_mem ho]; exact nofun)
    rw [hplaced hsilent.1]
    exact ⟨rfl, hsilent.2⟩
  case either =>
    subst hnote
    have hi' : (countGood s).link.tx = .idle := hi
    have hquietClass : ∀ p ∈ l, p.cls ≠ c → 3 ≤ s.setup.levels.get p.cls := fun p hm hne =>
      hothers _ hne (by rw [hl.told_of_mem hm]; exact nofun)
    obtain ⟨before, after, rfl⟩ := List.append_of_mem (hl.mem hd)
    have honce := hl.once
    rw [List.map_append, List.map_cons, List.nodup_append, List.nodup_cons] at honce
    obtain ⟨-, ⟨hafter, -⟩, hbefore⟩ := honce
    obtain ⟨hlink, hpend⟩ := hp.one_loud (hinv hs) hi' h3
      (fun p hm => hquietClass p (by simp [hm]) (hbefore p.cls (List.mem_map_of_mem hm) c (by simp)))
      (fun p hm => hquietClass p (by simp [hm]) fun he => hafter (List.mem_map.mpr ⟨p, hm, he⟩))
    have hn : (take (countGood s)).1.link.tx ≠ .idle := by rw [hlink]; exact nofun
    cases hf : Config.replyFirst (countGood s).freeCount with
    | true =>
      left
      rw [respond_replyFirst hi' hn hf, ha]
      generalize hv : ({ (countGood s).link with tx := .reply ⟨kind, tag, a⟩ } : Link) = v
      have hb : ((countGood s).setLink v).link.tx ≠ .idle := by subst hv; exact nofun
      refine ⟨?_, ?_⟩
      · rw [State.setFreeCount_link, State.setLink_link, (h.posted v).busy_link hb, h.answer v]
        subst hv
        simp [Link.answered, hi, hcount, hslot]
      · refine PerClass.ext_get fun k => ?_
        have hk := (h.posted v).busy_pending hl hb k
        rw [State.setFreeCount_notices, State.setLink_notices, hk]
        by_cases he : c = k
        · subst he
          have h3' : ((countGood s).setLink v).setup.levels.get c < 3 := h3
          have hnone : s.notices.pending.get c = none := (hs.1 hi).2 c
          simp [hd, h3', hnone]
        · rw [PerClass.get_set_ne _ _ _ _ he]
          cases ht : told k with
          | none => rfl
          | some e =>
            have hk3 := hothers k (Ne.symm he) (by rw [ht]; exact nofun)
            have hk3' : ¬((countGood s).setLink v).setup.levels.get k < 3 := by
              show ¬s.setup.levels.get k < 3
              omega
            simp only [if_neg hk3']
            rfl
    | false =>
      right
      rw [respond_noticeFirst hi' hn hf, placeReply_behind _ hn, ha]
      refine ⟨?_, hpend⟩
      rw [State.setFreeCount_link, State.setLink_link, hlink]
      rfl

end Sys2Proof.Machine
end

section
/-! The console's rows all run through one receiver and one dispatch, so a property that the owning blocks keep is
kept by every request row, by every byte and by the transmitter. -/

namespace Sys2Proof.Machine

open Sys2Proof

/-- A property that reads neither the line, nor the events in flight, nor the model's own queue and counter. -/
structure OffLineProp (I : State → Prop) : Prop where
  link : ∀ {s} v, I s → I (s.setLink v)
  notices : ∀ {s} v, I s → I (s.setNotices v)
  handed : ∀ {s} v, I s → I (s.setHanded v)
  freeCount : ∀ {s} v, I s → I (s.setFreeCount v)
  pending : ∀ {s} v, I s → I (s.setPending v)

section

variable {I : State → Prop} {s t : State}

theorem OffLineProp.of_offLine (hI : OffLineProp I) (h : OffLine s t) (hs : I s) : I t := by
  rw [h]
  exact hI.link t.link (hI.notices t.notices hs)

theorem OffLineProp.hand (hI : OffLineProp I) (e : Instr) (hs : I s) : I (hand s e) := hI.handed _ hs

theorem OffLineProp.takeHanded (hI : OffLineProp I) (e : Instr) (hs : I s) : I (takeHanded s e) :=
  hI.handed _ hs

theorem OffLineProp.post (hI : OffLineProp I) (c : NoticeClass) (d : NoticeDetail) (hs : I s) :
    I (post s c d) := hI.of_offLine (offLine_post s c d) hs

theorem OffLineProp.postAt (hI : OffLineProp I) (c : NoticeClass) (x : Nat) (d : NoticeDetail) (hs : I s) :
    I (postAt s c x d) := hI.of_offLine (offLine_postAt s c x d) hs

theorem OffLineProp.placeReply (hI : OffLineProp I) (r : Reply) (hs : I s) : I (placeReply s r) := by
  rw [placeReply_eq]
  exact hI.link _ hs

theorem OffLineProp.setRx (hI : OffLineProp I) (r : Receiver) (hs : I s) : I (setRx s r) := hI.link _ hs

theorem OffLineProp.setCounters (hI : OffLineProp I) (n : LinkCounters) (hs : I s) : I (setCounters s n) :=
  hI.link _ hs

theorem OffLineProp.countGood (hI : OffLineProp I) (hs : I s) : I (countGood s) := hI.link _ hs

theorem OffLineProp.respond (hI : OffLineProp I) {take : State → State × Answer}
    (ht : ∀ s, I s → I (take s).1) (kind tag : Byte) (hs : I s) : I (respond kind tag take s) := by
  by_cases hc : s.link.tx = .idle ∧ (take s).1.link.tx ≠ .idle
  · cases hf : Config.replyFirst s.freeCount with
    | true =>
      rw [respond_replyFirst hc.1 hc.2 hf]
      exact hI.freeCount _ (hI.link _ (ht _ (hI.link _ hs)))
    | false =>
      rw [respond_noticeFirst hc.1 hc.2 hf]
      exact hI.freeCount _ (hI.placeReply _ (ht _ hs))
  · rw [respond_placed hc]
    exact hI.placeReply _ (ht _ hs)

end

/-- What is served: a refusal of the screen, a Link Reset behind its reply, or a request answered (R174, R179). -/
theorem serveRequest_cases (s : State) (tag : Byte) (r : Request) :
    (∃ a, screenKind s r.kind = some a ∧ serveRequest s tag r = placeReply s ⟨r.kind, tag, a⟩) ∨
      (screenKind s r.kind = none ∧ r = .linkReset ∧
        serveRequest s tag r = linkResetActs (placeReply s ⟨r.kind, tag, answer .done []⟩)) ∨
      (screenKind s r.kind = none ∧ r ≠ .linkReset ∧
        serveRequest s tag r = respond r.kind tag (takeRequest r) s) := by
  unfold serveRequest
  cases screenKind s r.kind with
  | some a => exact .inl ⟨a, rfl, rfl⟩
  | none =>
    refine .inr ?_
    cases r with
    | linkReset => exact .inl ⟨rfl, rfl, rfl⟩
    | _ => exact .inr ⟨rfl, nofun, rfl⟩

/-- What a good frame comes to: a refusal, or the request it carries served (R174). -/
theorem dispatch_cases (s : State) (kind tag : Byte) (body : List Byte) :
    (∃ r, dispatch s kind tag body = placeReply s r) ∨
      ∃ r, wholeRequest kind body = some r ∧ screenKind s kind = none ∧
        dispatch s kind tag body = serveRequest s tag r := by
  unfold dispatch
  cases screenKind s kind with
  | some a => exact .inl ⟨_, rfl⟩
  | none =>
    cases wholeRequest kind body with
    | none => exact .inl ⟨_, rfl⟩
    | some r => exact .inr ⟨r, rfl, rfl, rfl⟩

/-- A request row is the arrival of its request's frame. -/
theorem exec_of_request {i : Instr} {tag : Byte} {r : Request} (h : i.request? = some (tag, r)) (s : State) :
    exec i s = .next (arrive tag r s) := by
  cases i <;> cases h <;> rfl

/-- The rows that come over the console link: requests, bytes, and the link's own two events. -/
def consoleRow : Instr → Bool
  | .byteReceived _ _ | .unknownRequest _ _ _ | .silenceTimerExpiry | .transmitterIdle => true
  | i => i.request?.isSome

section

variable {I : State → Prop}

/-- A property that the blocks' answers to requests keep. -/
structure ConsoleProp (I : State → Prop) : Prop extends OffLineProp I where
  request : ∀ (r : Request) {s : State}, I s → I (takeRequest r s).1

variable {s : State} (hI : ConsoleProp I)

include hI

theorem ConsoleProp.serveRequest (tag : Byte) (r : Request) (hs : I s) : I (serveRequest s tag r) := by
  rcases serveRequest_cases s tag r with ⟨a, -, h⟩ | ⟨-, -, h⟩ | ⟨-, -, h⟩ <;> rw [h]
  · exact hI.placeReply _ hs
  · exact hI.request .linkReset (hI.placeReply _ hs)
  · exact hI.respond (fun _ => hI.request r) _ _ hs

theorem ConsoleProp.dispatch (kind tag : Byte) (body : List Byte) (hs : I s) :
    I (dispatch s kind tag body) := by
  rcases dispatch_cases s kind tag body with ⟨r, h⟩ | ⟨r, -, -, h⟩ <;> rw [h]
  · exact hI.placeReply _ hs
  · exact hI.serveRequest _ _ hs

theorem ConsoleProp.frameGood (kind tag : Byte) (body : List Byte) (hs : I s) :
    I (frameGood s kind tag body) := by
  unfold Machine.frameGood
  simp only
  split
  · exact hI.dispatch _ _ _ (hI.setRx _ (hI.countGood hs))
  · exact hI.setRx _ (hI.countGood hs)

theorem ConsoleProp.takeByte (b : Byte) (hs : I s) : I (takeByte s b) := by
  unfold Machine.takeByte
  split
  · split
    · exact hI.setRx _ hs
    · exact hs
  · split
    · exact hI.setRx _ (hI.setCounters _ hs)
    · exact hI.setRx _ hs
  · exact hI.setRx _ hs
  · exact hI.setRx _ hs
  · exact hI.setRx _ hs
  · exact hI.setRx _ hs
  · unfold checkFrame
    split
    · exact hI.frameGood _ _ _ hs
    · exact hI.setRx _ (hI.setCounters _ hs)
  · split
    · exact hI.setCounters _ hs
    · exact hs

theorem ConsoleProp.takeBadByte (hs : I s) : I (takeBadByte s) := by
  unfold Machine.takeBadByte
  split
  · exact hs
  · exact hs
  · exact hI.setRx _ (hI.setCounters _ hs)

theorem ConsoleProp.feed (bs : List Byte) (hs : I s) : I (feed s bs) := by
  unfold Machine.feed
  induction bs generalizing s with
  | nil => exact hs
  | cons b bs ih => exact ih (hI.takeByte b hs)

theorem ConsoleProp.arriveFrame (kind tag : Byte) (body : List Byte) {serve : State → State}
    (hserve : ∀ {s}, I s → I (serve s)) (hs : I s) : I (arriveFrame kind tag body serve s) := by
  unfold Machine.arriveFrame
  split
  · exact hs
  · split
    · split
      · exact hserve (hI.countGood hs)
      · exact hI.setRx _ (hI.countGood hs)
    · exact hI.feed _ hs

theorem ConsoleProp.freeLine (hs : I s) : I (freeLine s) := by
  have harb : ∀ {s}, I s → I (arbitrate s) := by
    intro s hs
    refine hI.of_offLine ?_ hs
    have h := arbitrate_frame s
    unfold OffLine
    generalize Machine.arbitrate s = t at h ⊢
    cases t; cases s
    simp_all
  unfold Machine.freeLine dispatchHeld
  simp only
  split
  · split
    · exact hI.dispatch _ _ _ (hI.setRx _ (harb (hI.link _ hs)))
    · exact harb (hI.link _ hs)
  · exact harb (hI.link _ hs)

/-- Every row of the console keeps what the blocks' answers to requests keep. -/
theorem ConsoleProp.exec_console {i : Instr} (hi : consoleRow i = true) (hs : I s) {t : State}
    (h : exec i s = .next t) : I t := by
  have hrow : ∀ {tag r}, i.request? = some (tag, r) → I t := by
    intro tag r hr
    rw [exec_of_request hr] at h
    cases h
    exact hI.arriveFrame _ _ _ (hI.serveRequest tag r) hs
  cases i with
  | byteReceived b framingError =>
    cases h
    split
    · exact hs
    · split
      · exact hI.takeBadByte hs
      · exact hI.takeByte b hs
  | unknownRequest tag kind body =>
    cases h
    exact hI.arriveFrame _ _ _ (hI.dispatch kind tag body) hs
  | silenceTimerExpiry =>
    cases h
    split
    · exact hs
    · exact hs
    · exact hI.setRx _ (hI.setCounters _ hs)
  | transmitterIdle =>
    cases h
    split
    · exact hs
    · exact hI.freeLine hs
  | _ =>
    first
    | exact hrow rfl
    | cases hi

/-- Every step keeps what the blocks' answers to requests and the other rows keep. -/
theorem ConsoleProp.step
    (hevent : ∀ {i s t}, consoleRow i = false → I s → exec i s = .next t → I t) :
    ∀ s t : State, I s → step s = .next t → I t := by
  have hexec : ∀ {i s t}, I s → exec i s = .next t → I t := by
    intro i s t hs h
    cases hi : consoleRow i with
    | true => exact hI.exec_console hi hs h
    | false => exact hevent hi hs h
  intro s t hs h
  unfold Machine.step at h
  split at h
  · exact hexec (hI.pending _ hs) h
  · exact hexec hs h
  · cases h
    exact hs

end

end Sys2Proof.Machine
end

section
/-! Which blocks a command may write: a table over the requests and one over the other rows. The invariants of the
machine read one block or two, and the commands that do not write them keep them by the table. -/

namespace Sys2Proof.Machine

open Sys2Proof

/-- The blocks that the invariants of the machine read; `line` is the link with the Notice Unit; of the Setup Store,
the groups GEOMETRY, LIMITS and NOTICE of the working setup, and what is stored or being stored. -/
inductive Block where
  | travel | program | obstacles | legs | conveyor | advance | line | geometry | limits | levels | stored
  deriving DecidableEq

/-- From s to t the blocks but for those listed are the same. -/
structure Frame (ws : List Block) (s t : State) : Prop where
  travel : Block.travel ∈ ws ∨ t.travel = s.travel
  program : Block.program ∈ ws ∨ t.program = s.program
  obstacles : Block.obstacles ∈ ws ∨ t.obstacles = s.obstacles
  legs : Block.legs ∈ ws ∨ t.legs = s.legs
  conveyor : Block.conveyor ∈ ws ∨ t.conveyor = s.conveyor
  advance : Block.advance ∈ ws ∨ t.advance = s.advance
  line : Block.line ∈ ws ∨ t.link = s.link ∧ t.notices = s.notices
  geometry : Block.geometry ∈ ws ∨ t.store.working.geometry = s.store.working.geometry
  limits : Block.limits ∈ ws ∨ t.store.working.limits = s.store.working.limits
  levels : Block.levels ∈ ws ∨ t.store.working.levels = s.store.working.levels
  stored : Block.stored ∈ ws ∨ t.store.stored = s.store.stored ∧ t.store.storing = s.store.storing

theorem frame_iff (ws : List Block) (s t : State) :
    Frame ws s t ↔
      (Block.travel ∈ ws ∨ t.travel = s.travel) ∧ (Block.program ∈ ws ∨ t.program = s.program) ∧
      (Block.obstacles ∈ ws ∨ t.obstacles = s.obstacles) ∧ (Block.legs ∈ ws ∨ t.legs = s.legs) ∧
      (Block.conveyor ∈ ws ∨ t.conveyor = s.conveyor) ∧ (Block.advance ∈ ws ∨ t.advance = s.advance) ∧
      (Block.line ∈ ws ∨ t.link = s.link ∧ t.notices = s.notices) ∧
      (Block.geometry ∈ ws ∨ t.store.working.geometry = s.store.working.geometry) ∧
      (Block.limits ∈ ws ∨ t.store.working.limits = s.store.working.limits) ∧
      (Block.levels ∈ ws ∨ t.store.working.levels = s.store.working.levels) ∧
      (Block.stored ∈ ws ∨ t.store.stored = s.store.stored ∧ t.store.storing = s.store.storing) :=
  ⟨fun ⟨a, b, c, d, e, f, g, h, i, j, k⟩ => ⟨a, b, c, d, e, f, g, h, i, j, k⟩,
    fun ⟨a, b, c, d, e, f, g, h, i, j, k⟩ => ⟨a, b, c, d, e, f, g, h, i, j, k⟩⟩

/-- A block that the list does not hold, as the list is run through. -/
theorem Block.not_mem {b : Block} {ws : List Block} (h : ws.contains b = false) : b ∉ ws := by
  simpa using h

theorem Frame.refl (ws : List Block) (s : State) : Frame ws s s := by simp [frame_iff]

/-- A block that is listed, or the same over both of two operations. -/
theorem writes_trans {α : Type} {a b c : α} {p : Prop} (h : p ∨ b = a) (k : p ∨ c = b) : p ∨ c = a := by
  rcases h with h | rfl
  · exact .inl h
  · exact k

theorem Frame.trans {ws : List Block} {s t u : State} (h : Frame ws s t) (k : Frame ws t u) : Frame ws s u :=
  { travel := writes_trans h.travel k.travel
    program := writes_trans h.program k.program
    obstacles := writes_trans h.obstacles k.obstacles
    legs := writes_trans h.legs k.legs
    conveyor := writes_trans h.conveyor k.conveyor
    advance := writes_trans h.advance k.advance
    line := by
      rcases h.line with h | ⟨hl, hn⟩
      · exact .inl h
      · rw [← hl, ← hn]
        exact k.line
    geometry := writes_trans h.geometry k.geometry
    limits := writes_trans h.limits k.limits
    levels := writes_trans h.levels k.levels
    stored := by
      rcases h.stored with h | ⟨hs, hp⟩
      · exact .inl h
      · rw [← hs, ← hp]
        exact k.stored }

@[simp] theorem setWorking_store (s : State) (p : Setup) :
    (setWorking s p).store = { s.store with working := p } := (rfl)

/-- The good supply starts the settle phase, and touches no setting (R186). -/
@[simp] theorem supplyGood_store (s : State) :
    (supplyGood s).store =
      { s.store with phase := if s.store.phase = .supplyWait then .settle else s.store.phase } := by
  unfold supplyGood
  split
  · next h => simp [h]
  · next h => simp [h]
  · next h _ =>
    have hwait : s.store.phase ≠ .supplyWait := h
    simp [hwait]

/-! ## The requests -/

/-- The blocks that the owner of a request may write as it takes it. -/
def requestWrites : Request → List Block
  | .setStation _ => [.travel, .program, .obstacles, .line]
  | .loadSegments _ | .clearProgram => [.program]
  | .segmentRecord _ | .abortTransfer | .cutProgram _ => [.program, .line]
  | .addObstacle _ | .removeObstacle _ => [.obstacles]
  | .setLegMode _ _ | .jogLeg _ _ _ _ => [.legs]
  | .setBeltMode _ _ | .truckDone | .takeTruckRecord => [.conveyor]
  | .clearTotals => [.conveyor, .line]
  | .setTruckTarget _ | .writeConveyor _ | .writeTruck _ => [.conveyor]
  | .releaseHold _ => [.advance]
  | .readStatus => [.line]
  | .linkReset => [.program, .obstacles, .legs, .advance, .line]
  | .writeGeometry _ => [.travel, .geometry]
  | .writeScan _ => [.travel]
  | .writeControl _ => [.program, .line]
  | .writeLeg _ => [.legs]
  | .writeLimits _ => [.advance, .limits]
  | .writeNotice _ => [.levels, .line]
  | .storeSetup => [.stored]
  | _ => []

section
variable (s : State)

theorem takeSetStation_writes (x : BitVec 24) : Frame [.travel, .program, .obstacles, .line] s (takeSetStation x s).1 := by
  unfold takeSetStation
  split <;> simp [frame_iff, forgetBase]

theorem takeStartScan_writes : Frame [] s (takeStartScan s).1 := by
  unfold takeStartScan beginScanning
  split
  · exact Frame.refl _ _
  · simp only
    split <;> simp [frame_iff, State.setup]

theorem takeStopScan_writes : Frame [] s (takeStopScan s).1 := by
  unfold takeStopScan
  split <;> simp [frame_iff]

theorem takeSingleScan_writes : Frame [] s (takeSingleScan s).1 := by
  unfold takeSingleScan
  split <;> simp [frame_iff]

theorem takeLoadSegments_writes (n : Byte) : Frame [.program] s (takeLoadSegments n s).1 := by
  unfold takeLoadSegments setTransfer
  simp only
  generalize (if n.toNat = 0 then 16 else n.toNat) = announced
  split
  · exact Frame.refl _ _
  · split <;> simp [frame_iff]

theorem takeSegmentRecord_writes (r : SegmentWire) : Frame [.program, .line] s (takeSegmentRecord r s).1 := by
  unfold takeSegmentRecord appendSegment setTransfer
  split
  · exact Frame.refl _ _
  · simp only
    split <;> simp [frame_iff]

theorem takeAbortTransfer_writes : Frame [.program, .line] s (takeAbortTransfer s).1 := by
  unfold takeAbortTransfer setTransfer
  split <;> simp [frame_iff]

theorem takeCutProgram_writes (c : BitVec 24) : Frame [.program, .line] s (takeCutProgram c s).1 := by
  unfold takeCutProgram
  split <;> simp [frame_iff]

theorem takeClearProgram_writes : Frame [.program] s (takeClearProgram s).1 := by
  unfold takeClearProgram
  split <;> simp [frame_iff]

theorem takeQuerySegment_writes (id : BitVec 16) : Frame [] s (takeQuerySegment id s).1 := by
  unfold takeQuerySegment
  split <;> exact Frame.refl _ _

theorem takeLocateByStation_writes (x : BitVec 24) : Frame [] s (takeLocateByStation x s).1 := by
  unfold takeLocateByStation
  simp only
  split
  · exact Frame.refl _ _
  · split <;> exact Frame.refl _ _

theorem takeLocateBySegment_writes (id : BitVec 16) (off : BitVec 24) :
    Frame [] s (takeLocateBySegment id off s).1 := by
  unfold takeLocateBySegment
  split
  · exact Frame.refl _ _
  · split <;> exact Frame.refl _ _

theorem takeAddObstacle_writes (o : ObstacleWire) : Frame [.obstacles] s (takeAddObstacle o s).1 := by
  unfold takeAddObstacle
  split
  · simp only
    split <;> simp [frame_iff]
  · exact Frame.refl _ _
  · exact Frame.refl _ _

theorem takeRemoveObstacle_writes (id : Byte) : Frame [.obstacles] s (takeRemoveObstacle id s).1 := by
  unfold takeRemoveObstacle
  split
  · exact Frame.refl _ _
  · split <;> simp [frame_iff]

theorem takeSetTrim_writes (p : Byte) (l r : BitVec 16) : Frame [] s (takeSetTrim p l r s).1 := by
  unfold takeSetTrim
  simp [frame_iff]

theorem takeSetLegMode_writes (leg mode : Byte) : Frame [.legs] s (takeSetLegMode leg mode s).1 := by
  unfold takeSetLegMode setMode grantMode
  split
  · exact Frame.refl _ _
  · exact Frame.refl _ _
  · split
    · split
      · exact Frame.refl _ _
      · split <;> simp [frame_iff]
    · simp [frame_iff]

theorem takeJogLeg_writes (leg dir : Byte) (p d : BitVec 16) : Frame [.legs] s (takeJogLeg leg dir p d s).1 := by
  unfold takeJogLeg startJog
  split
  · exact Frame.refl _ _
  · exact Frame.refl _ _
  · split <;> simp [frame_iff]

theorem takeSetBeltMode_writes (mode : Byte) (p : BitVec 16) :
    Frame [.conveyor] s (takeSetBeltMode mode p s).1 := by
  unfold takeSetBeltMode
  split
  · exact Frame.refl _ _
  · split <;> simp [frame_iff]

theorem takeSetTruckTarget_writes (l : BitVec 16) : Frame [.conveyor] s (takeSetTruckTarget l s).1 := by
  unfold takeSetTruckTarget
  simp [frame_iff, State.setup]

theorem takeTruckDone_writes : Frame [.conveyor] s (takeTruckDone s).1 := by
  unfold takeTruckDone
  simp only
  split <;> simp [frame_iff]

theorem takeTakeTruckRecord_writes : Frame [.conveyor] s (takeTakeTruckRecord s).1 := by
  unfold takeTakeTruckRecord
  split <;> simp [frame_iff]

theorem takeClearTotals_writes : Frame [.conveyor, .line] s (takeClearTotals s).1 := by
  unfold takeClearTotals
  simp [frame_iff]

theorem takeReleaseHold_writes (r : Byte) : Frame [.advance] s (takeReleaseHold r s).1 := by
  unfold takeReleaseHold
  split
  · exact Frame.refl _ _
  · split <;> simp [frame_iff]

theorem takeReadStatus_writes : Frame [.line] s (takeReadStatus s).1 := by
  unfold takeReadStatus
  simp [frame_iff]

theorem linkResetActs_writes : Frame [.program, .obstacles, .legs, .advance, .line] s (linkResetActs s) := by
  unfold linkResetActs programLinkReset
  simp only
  split <;> simp [frame_iff, clearNotices]

theorem takeWriteGeometry_writes (g : GeometryWire) : Frame [.travel, .geometry] s (takeWriteGeometry g s).1 := by
  unfold takeWriteGeometry applyGeometry
  split
  · exact Frame.refl _ _
  · exact Frame.refl _ _
  · exact Frame.refl _ _
  · split <;> simp [frame_iff, State.setup]

theorem takeWriteChannel_writes (c : Channel) (g : ChannelWire) :
    Frame [] s (takeWriteChannel c g s).1 := by
  unfold takeWriteChannel staleRecord
  split
  · exact Frame.refl _ _
  · exact Frame.refl _ _
  · split <;> simp [frame_iff, State.setup]

theorem takeWriteControl_writes (g : ControlWire) : Frame [.program, .line] s (takeWriteControl g s).1 := by
  unfold takeWriteControl
  split <;> simp [frame_iff, State.setup]

theorem takeWriteLeg_writes (g : Sides LegWire) : Frame [.legs] s (takeWriteLeg g s).1 := by
  unfold takeWriteLeg
  simp only
  split <;> simp [frame_iff, State.setup]

/-- Making records STALE writes the scanner alone. -/
theorem staleRecords_eq (cs : List Channel) : ∃ v, cs.foldl staleRecord s = s.setScanner v := by
  induction cs generalizing s with
  | nil => exact ⟨s.scanner, rfl⟩
  | cons c cs ih =>
    obtain ⟨v, hv⟩ := ih (staleRecord s c)
    exact ⟨v, hv⟩

theorem applyScan_eq (g : ScanSetup) : ∃ v, applyScan s g =
    ((setWorking s { s.setup with scan := g }).setTravel
      (s.travel.rescanned g.standstillPeriod)).setScanner v := staleRecords_eq _ _

theorem takeWriteScan_writes (g : ScanWire) : Frame [.travel] s (takeWriteScan g s).1 := by
  unfold takeWriteScan
  split
  · exact Frame.refl _ _
  · exact Frame.refl _ _
  · exact Frame.refl _ _
  · split
    · exact Frame.refl _ _
    · next held _ _ _ _ _ =>
      obtain ⟨v, hv⟩ := applyScan_eq s held
      simp [frame_iff, State.setup, hv]

theorem takeWriteConveyor_writes (g : ConveyorWire) :
    Frame [.conveyor] s (takeWriteConveyor g s).1 := by
  unfold takeWriteConveyor
  simp only
  split <;> simp [frame_iff, State.setup]

theorem takeWriteTruck_writes (g : TruckWire) : Frame [.conveyor] s (takeWriteTruck g s).1 := by
  unfold takeWriteTruck
  simp only
  split <;> simp [frame_iff, State.setup]

theorem takeWriteLimits_writes (g : LimitsWire) : Frame [.advance, .limits] s (takeWriteLimits g s).1 := by
  unfold takeWriteLimits
  split <;> simp [frame_iff, State.setup]

theorem takeWriteNotice_writes (g : PerClass Byte) : Frame [.levels, .line] s (takeWriteNotice g s).1 := by
  unfold takeWriteNotice dropSilenced
  simp [frame_iff, State.setup]

theorem takeWriteLink_writes (b : Byte) : Frame [] s (takeWriteLink b s).1 := by
  unfold takeWriteLink
  split <;> simp [frame_iff, State.setup]

theorem takeReadSetup_writes (g : Byte) : Frame [] s (takeReadSetup g s).1 := by
  unfold takeReadSetup
  split <;> exact Frame.refl _ _

theorem takeStoreSetup_writes : Frame [.stored] s (takeStoreSetup s).1 := by
  unfold takeStoreSetup
  split <;> simp [frame_iff, State.setup]

/-- Every request writes no block but those of the table. -/
theorem takeRequest_writes (r : Request) : Frame (requestWrites r) s (takeRequest r s).1 := by
  cases r with
  | setStation x => exact takeSetStation_writes s x
  | startScan => exact takeStartScan_writes s
  | stopScan => exact takeStopScan_writes s
  | singleScan => exact takeSingleScan_writes s
  | loadSegments n => exact takeLoadSegments_writes s n
  | segmentRecord r => exact takeSegmentRecord_writes s r
  | abortTransfer => exact takeAbortTransfer_writes s
  | cutProgram c => exact takeCutProgram_writes s c
  | clearProgram => exact takeClearProgram_writes s
  | querySegment id => exact takeQuerySegment_writes s id
  | locateByStation x => exact takeLocateByStation_writes s x
  | locateBySegment id off => exact takeLocateBySegment_writes s id off
  | addObstacle o => exact takeAddObstacle_writes s o
  | removeObstacle id => exact takeRemoveObstacle_writes s id
  | setTrim p l r => exact takeSetTrim_writes s p l r
  | setLegMode leg mode => exact takeSetLegMode_writes s leg mode
  | jogLeg leg dir p d => exact takeJogLeg_writes s leg dir p d
  | setBeltMode mode p => exact takeSetBeltMode_writes s mode p
  | setTruckTarget l => exact takeSetTruckTarget_writes s l
  | truckDone => exact takeTruckDone_writes s
  | takeTruckRecord => exact takeTakeTruckRecord_writes s
  | clearTotals => exact takeClearTotals_writes s
  | releaseHold r => exact takeReleaseHold_writes s r
  | linkReset => exact linkResetActs_writes s
  | writeGeometry g => exact takeWriteGeometry_writes s g
  | writeChannel c g => exact takeWriteChannel_writes s c g
  | writeControl g => exact takeWriteControl_writes s g
  | writeLeg g => exact takeWriteLeg_writes s g
  | writeScan g => exact takeWriteScan_writes s g
  | writeConveyor g => exact takeWriteConveyor_writes s g
  | writeTruck g => exact takeWriteTruck_writes s g
  | writeLimits g => exact takeWriteLimits_writes s g
  | writeNotice g => exact takeWriteNotice_writes s g
  | writeLink b => exact takeWriteLink_writes s b
  | readSetup g => exact takeReadSetup_writes s g
  | storeSetup => exact takeStoreSetup_writes s
  | readStatus => exact takeReadStatus_writes s
  | readChannels | listObstacles | readTotals | peekStatus | identify | writeNoGroup =>
    exact Frame.refl _ _

end

/-! ## The rows that do not come over the console -/

/-- The blocks that a row that does not come over the console may write. -/
def eventWrites : Instr → List Block
  | .fullReset _ _ =>
    [.travel, .program, .obstacles, .legs, .conveyor, .advance, .line, .geometry, .limits, .levels, .stored]
  | .setupLoad => [.travel, .advance, .line, .geometry, .limits, .levels]
  | .startupSettleExpiry => [.advance]
  | .encoderEdge _ _ => [.travel, .program, .obstacles, .line]
  | .speedIntervalEnd | .standstillTimerExpiry | .standstillTriggerTimerExpiry => [.travel]
  | .triggerTaken _ _ | .intervalTimerExpiry | .singlePassEnd _ => [.line]
  | .scanEnd _ | .breachMark _ _ _ _ => [.obstacles, .line]
  | .legCommand _ _ | .referenceLostRequest _ | .noTargetRequest _ | .targetLost | .jogTimerExpiry _ => [.legs]
  | .cutReport _ | .beltInterval => [.conveyor, .line]
  | .beltPulse | .truckSettleTimerExpiry | .flashTimerExpiry | .hornTimerExpiry => [.conveyor]
  | .reasonAdd _ _ | .reasonWithdraw _ | .programEndAhead => [.advance]
  | .itemTimerExpiry => [.program, .line]
  | .switchSample _ | .supplyMeasurement _ => [.legs, .conveyor, .line]
  | .storeTimerExpiry => [.stored]
  | _ => []

/-- The accepted changes of a sample, taken one after another, write the legs and the conveyor. -/
theorem takeChange_foldl_writes (l : List InputChange) (s : State) :
    Frame [.legs, .conveyor, .line] s (l.foldl takeChange s) := by
  induction l generalizing s with
  | nil => exact Frame.refl _ _
  | cons c l ih => simpa [frame_iff] using ih (takeChange s c)

theorem takeChanges_writes (s : State) (l : List InputChange) :
    Frame [.legs, .conveyor, .line] s (takeChanges s l) := by
  have hquiet := takeChange_foldl_writes (l.filter fun c => !c.posts) s
  unfold takeChanges
  simp only
  generalize (l.filter fun c => !c.posts).foldl takeChange s = t at hquiet ⊢
  split
  · exact hquiet.trans (by simpa [frame_iff] using takeChange_foldl_writes _ (t.setFreeCount (s.freeCount + 1)))
  · exact hquiet.trans (takeChange_foldl_writes _ t)

theorem takeMeasurement_writes (s : State) (m : Nat) :
    Frame [.legs, .conveyor, .line] s (takeMeasurement s m) := by
  unfold takeMeasurement
  simp only
  split <;> simp [frame_iff, State.setup]

/-- Every row that does not come over the console writes no block but those of the table. -/
theorem event_writes {i : Instr} {s t : State} (hi : consoleRow i = false) (h : exec i s = .next t) :
    Frame (eventWrites i) s t := by
  cases i with
  | fullReset a b => cases h; simp [frame_iff, eventWrites]
  | setupLoad =>
    cases h
    unfold load takeSettings dropSilenced
    split
    · simp only
      split <;> simp [frame_iff, State.setup, eventWrites]
    · exact Frame.refl _ _
  | startupSettleExpiry =>
    cases h
    split
    · split <;> simp [frame_iff, eventWrites]
    · exact Frame.refl _ _
  | encoderEdge a b =>
    cases h
    split
    · exact Frame.refl _ _
    · simp [frame_iff, eventWrites]
    · split <;> simp [frame_iff, eventWrites]
    · split <;> simp [frame_iff, eventWrites]
  | speedIntervalEnd => cases h; simp [frame_iff, State.setup, eventWrites]
  | standstillTimerExpiry => cases h; split <;> simp [frame_iff, State.setup, eventWrites]
  | standstillTriggerTimerExpiry => cases h; split <;> simp [frame_iff, State.setup, eventWrites]
  | triggerTaken kind station => cases h; simp [frame_iff, eventWrites]
  | standstillBeginEvent =>
    cases h
    unfold takeStandstillBegin
    split <;> simp [frame_iff, State.setup, eventWrites]
  | standstillEndEvent =>
    cases h
    unfold takeStandstillEnd
    simp only
    split <;> simp [frame_iff, eventWrites]
  | settleTimerExpiry => cases h; split <;> simp [frame_iff, State.setup, eventWrites]
  | intervalTimerExpiry => cases h; simp [frame_iff, eventWrites]
  | parkTimerExpiry =>
    cases h
    split
    · exact Frame.refl _ _
    · simp only
      split <;> simp [frame_iff, eventWrites]
  | noLegAutoReport =>
    cases h
    unfold takeNoLegAuto
    split <;> simp [frame_iff, eventWrites]
  | scanEnd raw => cases h; split <;> simp [frame_iff, eventWrites]
  | legCommand d u => cases h; simp [frame_iff, eventWrites]
  | referenceLostRequest d => cases h; split <;> simp [frame_iff, eventWrites]
  | noTargetRequest d => cases h; simp [frame_iff, eventWrites]
  | targetLost => cases h; simp [frame_iff, eventWrites]
  | leftAutoReport d =>
    cases h
    unfold takeLeftAuto
    simp only
    split <;> simp [frame_iff, eventWrites]
  | leftHoldReport d => cases h; simp [frame_iff, eventWrites]
  | breachMark id d depth bound => cases h; simp [frame_iff, eventWrites]
  | cutReport r => cases h; simp [frame_iff, eventWrites]
  | clearRemainder => cases h; simp [frame_iff, eventWrites]
  | reasonAdd r cap => cases h; simp [frame_iff, eventWrites]
  | reasonWithdraw r => cases h; simp [frame_iff, eventWrites]
  | programEndAhead => cases h; simp [frame_iff, eventWrites]
  | singlePassEnd raw => cases h; split <;> simp [frame_iff, eventWrites]
  | itemTimerExpiry =>
    simp only [exec, execItemTimerExpiry, setTransfer] at h
    split at h <;> cases h <;> simp [frame_iff, eventWrites]
  | jogTimerExpiry d =>
    cases h
    unfold endJog
    split <;> simp [frame_iff, State.setup, eventWrites]
  | switchSample closed =>
    cases h
    simpa [frame_iff, eventWrites] using takeChanges_writes (s.setInputs _) (acceptedChanges s.inputs closed)
  | supplyMeasurement millivolts =>
    cases h
    split
    · exact Frame.refl _ _
    · exact takeMeasurement_writes s _
  | beltPulse => cases h; simp [frame_iff, eventWrites]
  | beltInterval => cases h; simp [frame_iff, State.setup, eventWrites]
  | truckSettleTimerExpiry => cases h; split <;> simp [frame_iff, eventWrites]
  | flashTimerExpiry => cases h; split <;> simp [frame_iff, eventWrites]
  | hornTimerExpiry => cases h; simp [frame_iff, eventWrites]
  | storeTimerExpiry => cases h; split <;> simp [frame_iff, eventWrites]
  | _ => cases hi

end Sys2Proof.Machine
end

section
/-! What a leg operation leaves: the rules of the Leg Drive, its invariant, and what its commands do. -/

namespace Sys2Proof.Machine

open Sys2Proof

/-! ## A request answered at once -/

/-- A request whose owner leaves the link alone: the owner's state with the reply. -/
theorem exec_answered {i : Instr} {tag : Byte} {r : Request} {s t u : State} {a : Answer}
    (hi : i.request? = some (tag, r)) (h : Accepting s)
    (ht : takeRequest r (countGood s) = (u, a)) (hu : u.link = (countGood s).link := by rfl)
    (hr : r ≠ .linkReset := by nofun) (hv : u.setLink (s.link.answered (replyTo tag r a)) = t := by rfl) :
    exec i s = .next t := by
  rw [← hv, exec_of_request hi, arrive_quiet s tag r h hr (by rw [ht]; exact hu), ht]

/-- A request whose owner only answers. -/
theorem exec_refused {i : Instr} {tag : Byte} {r : Request} {s : State} {a : Answer}
    (hi : i.request? = some (tag, r)) (h : Accepting s)
    (ht : takeRequest r (countGood s) = (countGood s, a)) (hr : r ≠ .linkReset := by nofun) :
    exec i s = .next { s with link := s.link.answered (replyTo tag r a) } :=
  exec_answered (u := countGood s) hi h ht rfl hr

/-! ## Outputs and modes -/

theorem driveLeg_eq (p : LegSetup) (l : Leg) (u : Int) : driveLeg p l u = l.driven p u := rfl

/-- A leg driven at 0 rests. -/
theorem driveLeg_zero (p : LegSetup) (l : Leg) (m : LegMode) :
    driveLeg p { l with mode := m, jog := none } 0 = l.restedIn m := by
  simp [driveLeg, Leg.restedIn]

@[simp] theorem legOf_setLeg_self (s : State) (d : Side) (l : Leg) : legOf (setLeg s d l) d = l := by
  simp [legOf, setLeg]

theorem legOf_setLeg_ne (s : State) {d e : Side} (l : Leg) (h : e ≠ d) : legOf (setLeg s d l) e = legOf s e := by
  simp [legOf, setLeg, Sides.get_set_ne _ _ _ _ h.symm]

theorem Side.other_ne (d : Side) : d.other ≠ d := by cases d <;> nofun

theorem anyAuto_iff (s : State) (d : Side) :
    anyAuto s = true ↔ (legOf s d).mode = .auto ∨ (legOf s d.other).mode = .auto := by
  cases d <;> simp [anyAuto, legOf, Side.other, Sides.get, or_comm]

theorem anyAuto_false_iff (s : State) : anyAuto s = false ↔ NoAuto s := by
  simp [anyAuto, NoAuto]

/-- A leg takes a mode: it rests in it, and its departure from AUTO is reported (R117, R124). -/
theorem enterMode_eq (s : State) (d : Side) (m : LegMode) :
    enterMode s d m =
      { s with
        legs := { s.legs with legs := s.legs.legs.set d ((legOf s d).restedIn m) },
        handed := s.handed ++ if m = .auto then [] else leftAutoReports s d } := by
  have hset : (driveLeg (s.setup.legs.get d) { legOf s d with mode := m, jog := none } 0) =
      (legOf s d).restedIn m := driveLeg_zero _ _ _
  have hrest : ((legOf s d).restedIn m).mode = m := rfl
  unfold enterMode reportLeftAuto leftAutoReports
  simp only [hset]
  by_cases hm : m = .auto
  · simp [hm, setLeg, State.setLegs]
  · by_cases hold : (legOf s d).mode = .auto
    · have hauto : anyAuto (hand (setLeg s d ((legOf s d).restedIn m)) (.leftAutoReport d)) = true ↔
          (legOf s d.other).mode = .auto := by
        rw [anyAuto_iff _ d]
        have h1 : legOf (hand (setLeg s d ((legOf s d).restedIn m)) (.leftAutoReport d)) d =
            (legOf s d).restedIn m := legOf_setLeg_self _ _ _
        have h2 : legOf (hand (setLeg s d ((legOf s d).restedIn m)) (.leftAutoReport d)) d.other =
            legOf s d.other := legOf_setLeg_ne _ _ (Side.other_ne d)
        rw [h1, h2, hrest]
        simp [hm]
      simp only [hold, hm, ne_eq, not_false_eq_true, and_self, if_true, if_false]
      by_cases ho : (legOf s d.other).mode = .auto
      · rw [if_pos (hauto.mpr ho), if_pos ho]
        rfl
      · rw [if_neg (hauto.not.mpr ho), if_neg ho, ← List.append_assoc]
        rfl
    · simp [hm, hold, setLeg, State.setLegs]

/-- What is applied to a leg: 0 under a low supply, and toward an active limit (R117, R128). -/
theorem applyOutput_eq (s : State) (d : Side) (l : Leg) (u : Int) :
    applyOutput s d l u = setLeg s d (l.driven (s.setup.legs.get d)
      (if s.legs.supplyLow = true ∨ u < 0 ∧ l.upper = true ∨ 0 < u ∧ l.lower = true then 0 else u)) := by
  unfold applyOutput limitCut
  rw [driveLeg_eq]
  by_cases hs : s.legs.supplyLow = true
  · simp [hs]
  · by_cases hu : u < 0 ∧ l.upper = true
    · simp [hs, hu]
    · by_cases hl : 0 < u ∧ l.lower = true
      · simp [hs, hl]
      · simp [hs, hu, hl]

/-- The slew guard keeps a value within the slew of the last output (R101, R122). -/
theorem slewToward_eq (slew : Nat) (last u : Int) :
    slewToward slew last u = max (last - slew) (min (last + slew) u) := by
  unfold slewToward
  split
  · omega
  · split <;> omega

/-! ## The commands handed to the legs -/

/-- Settles O39: the slew guard, then the limit cut. -/
theorem legCommandTaken : Obligations.LegCommandTaken := by
  unfold Obligations.LegCommandTaken
  rintro s d u v w l rfl rfl rfl
  refine ⟨fun hauto => ?driven, fun hother => ?discarded⟩
  case driven =>
    have htaken : takeLegCommand (takeHanded s (.legCommand d u)) d u =
        applyOutput (takeHanded s (.legCommand d u)) d (legOf s d)
          (slewToward s.setup.control.slew (legOf s d).output u) := if_pos hauto
    refine congrArg Host.Outcome.next (htaken.trans ?_)
    rw [slewToward_eq, applyOutput_eq]
    rfl
  case discarded => exact congrArg Host.Outcome.next (if_neg hother)

theorem holdIfAuto_of_auto {s : State} {d : Side} (h : (legOf s d).mode = .auto) :
    holdIfAuto s d =
      { s with
        legs := { s.legs with legs := s.legs.legs.set d ((legOf s d).restedIn .hold) },
        handed := s.handed ++ leftAutoReports s d } := by
  rw [holdIfAuto, if_pos h, enterMode_eq]
  rfl

theorem holdIfAuto_of_not_auto {s : State} {d : Side} (h : (legOf s d).mode ≠ .auto) : holdIfAuto s d = s :=
  if_neg h

/-- The one leg in AUTO goes to HOLD (R124). -/
theorem holdAutoLegs_one {s : State} {d : Side} (h : (legOf s d).mode = .auto)
    (ho : (legOf s d.other).mode ≠ .auto) : holdAutoLegs s = holdIfAuto s d := by
  unfold holdAutoLegs
  cases d with
  | left =>
    refine holdIfAuto_of_not_auto ?_
    rw [holdIfAuto_of_auto h]
    exact ho
  | right => rw [holdIfAuto_of_not_auto (d := .left) ho]

theorem holdAutoLegs_none {s : State} (h : NoAuto s) : holdAutoLegs s = s := by
  unfold holdAutoLegs
  rw [holdIfAuto_of_not_auto (d := .left) h.1, holdIfAuto_of_not_auto (d := .right) h.2]

/-- Both legs in AUTO go to HOLD, the right one as the last (R124). -/
theorem holdAutoLegs_both {s : State} (hl : (legOf s .left).mode = .auto) (hr : (legOf s .right).mode = .auto) :
    holdAutoLegs s =
      { s with
        legs := { s.legs with legs := ⟨s.legs.legs.left.restedIn .hold, s.legs.legs.right.restedIn .hold⟩ },
        handed := s.handed ++ [.leftAutoReport .left, .leftAutoReport .right, .noLegAutoReport] } := by
  have hleft : leftAutoReports s .left = [.leftAutoReport .left] := by
    simp [leftAutoReports, hl, hr, Side.other]
  unfold holdAutoLegs
  rw [holdIfAuto_of_auto hl, hleft]
  generalize hu : ({ s with
    legs := { s.legs with legs := s.legs.legs.set .left ((legOf s .left).restedIn .hold) },
    handed := s.handed ++ [.leftAutoReport .left] } : State) = u
  have hright : (legOf u .right).mode = .auto := by subst hu; exact hr
  have hmode : (legOf u .left).mode = .hold := by subst hu; rfl
  have hreports : leftAutoReports u .right = [.leftAutoReport .right, .noLegAutoReport] := by
    simp [leftAutoReports, hright, hmode, Side.other]
  rw [holdIfAuto_of_auto hright, hreports]
  subst hu
  simp [legOf, Sides.get, Sides.set]

/-- Settles O40: a leg in AUTO goes to HOLD with its reports, another leg stays. -/
theorem holdRequestsTaken : Obligations.HoldRequestsTaken := by
  unfold Obligations.HoldRequestsTaken
  intro s d
  refine ⟨fun h => ⟨?lost, ?noTarget, fun ho => ?target⟩, fun h => ⟨?notLost, ?notNoTarget⟩, fun h => ?none,
    fun hl hr => ?both⟩
  case lost =>
    refine congrArg Host.Outcome.next ((if_pos h).trans ?_)
    rw [enterMode_eq]
    rfl
  case noTarget =>
    exact congrArg Host.Outcome.next (holdIfAuto_of_auto (s := takeHanded s (.noTargetRequest d)) h)
  case target =>
    exact congrArg Host.Outcome.next ((holdAutoLegs_one (s := takeHanded s .targetLost) h ho).trans
      (holdIfAuto_of_auto (s := takeHanded s .targetLost) h))
  case notLost => exact congrArg Host.Outcome.next (if_neg h)
  case notNoTarget =>
    exact congrArg Host.Outcome.next (holdIfAuto_of_not_auto (s := takeHanded s (.noTargetRequest d)) h)
  case none => exact congrArg Host.Outcome.next (holdAutoLegs_none (s := takeHanded s .targetLost) h)
  case both => exact congrArg Host.Outcome.next (holdAutoLegs_both (s := takeHanded s .targetLost) hl hr)

/-! ## Set Leg Mode -/

/-- A mode granted: the leg rests in it, with its reports, and the reply names it (R118, R121, R124). -/
theorem grantMode_eq (s : State) (d : Side) (m : LegMode) :
    grantMode s d m =
      ({ s with
        legs := { s.legs with legs := s.legs.legs.set d ((legOf s d).restedIn m) },
        handed := s.handed ++ (if m = .auto then [] else leftAutoReports s d) ++
          if (legOf s d).mode = .hold ∧ m ≠ .hold then [.leftHoldReport d] else [] },
        answer .done [u8 (sideCode d), u8 m.code, signed2 0]) := by
  have hleg : ∀ h f, legOf { s with
        legs := { s.legs with legs := s.legs.legs.set d ((legOf s d).restedIn m) }, handed := h, freeCount := f } d =
      (legOf s d).restedIn m := fun _ _ => Sides.get_set_self _ _ _
  unfold grantMode reportLeftHold
  rw [enterMode_eq]
  by_cases h : (legOf s d).mode = .hold ∧ m ≠ .hold
  · simp only [h, ne_eq, not_false_eq_true, and_self, if_true, legFields, hand, State.setHanded, hleg]
    rfl
  · simp only [h, if_false, List.append_nil, legFields, hleg]
    rfl

theorem setMode_of_not_auto (s : State) (d : Side) {m : LegMode} (h : m ≠ .auto) :
    setMode s d m = grantMode s d m := if_neg h

theorem sideOfCode_none : ∀ {n : Nat}, sideOfCode n = none ↔ 1 < n
  | 0 | 1 => by decide
  | n + 2 => by simp [sideOfCode]

theorem LegMode.ofCode_none : ∀ {n : Nat}, LegMode.ofCode n = none ↔ 3 < n
  | 0 | 1 | 2 | 3 => by decide
  | n + 4 => by simp [Machine.LegMode.ofCode]

theorem takeSetLegMode_of_codes {leg mode : Byte} {d : Side} {m : LegMode} (hd : sideOfCode leg.toNat = some d)
    (hm : LegMode.ofCode mode.toNat = some m) (s : State) : takeSetLegMode leg mode s = setMode s d m := by
  simp only [takeSetLegMode, hd, hm]

/-- Settles O41. -/
theorem setLegModeRests : Obligations.SetLegModeRests := by
  unfold Obligations.SetLegModeRests
  intro tag leg mode s hs
  refine ⟨fun a ha => exec_refused rfl hs ?refused, fun d m hd hm hauto => ?granted⟩
  case refused =>
    rcases ha with ⟨hleg, rfl⟩ | ⟨hleg, hmode, rfl⟩
    · simp only [takeRequest, takeSetLegMode, sideOfCode_none.mpr hleg]
    · obtain ⟨d, hd⟩ := Option.ne_none_iff_exists'.mp (sideOfCode_none.not.mpr (Nat.not_lt.mpr hleg))
      simp only [takeRequest, takeSetLegMode, hd, LegMode.ofCode_none.mpr hmode]
  case granted =>
    have htaken : takeSetLegMode leg mode (countGood s) = grantMode (countGood s) d m :=
      (takeSetLegMode_of_codes hd hm _).trans (setMode_of_not_auto _ d hauto)
    rw [grantMode_eq, if_neg hauto] at htaken
    exact exec_answered rfl hs htaken

/-! ## Set Leg Mode for AUTO -/

/-- From the start of a list on, a position names a segment (R43). -/
theorem positionFrom_segment (g : Segment) (rest : List Segment) (x : Nat) :
    ((positionFrom g rest x).segment).isSome = true := by
  induction rest generalizing g with
  | nil =>
    unfold positionFrom
    split <;> rfl
  | cons h t ih =>
    unfold positionFrom
    split
    · rfl
    · simp only
      split
      · rfl
      · exact ih h

/-- A target is there where the position names a segment (R44). -/
theorem targetAt_isSome (s : State) (x : Nat) :
    (targetAt s x).isSome = ((positionIn s.program.segments x).segment).isSome := by
  unfold targetAt
  simp only
  cases positionIn s.program.segments x <;> rfl

/-- A target is there from the start of the program on (R44). -/
theorem targetAt_isSome_iff (s : State) (x : Nat) :
    (targetAt s x).isSome = true ↔ ∃ g rest, s.program.segments = g :: rest ∧ g.start ≤ x := by
  rw [targetAt_isSome]
  cases s.program.segments with
  | nil => simp [positionIn, Position.segment]
  | cons g rest =>
    unfold positionIn
    simp only
    split
    · simp [Position.segment]
      omega
    · simp [positionFrom_segment]
      omega

/-- The reference that AUTO needs: that of the last step, or, with no base station, the live one (R120). -/
theorem hasReference_of_base {s : State} {d : Side} (h : s.grade.base.isSome = true) :
    hasReference s d = (s.grade.sides.get d).reference := by
  obtain ⟨b, hb⟩ := Option.isSome_iff_exists.mp h
  simp [hasReference, hb]

theorem hasReference_of_no_base {s : State} {d : Side} (h : s.grade.base = none) :
    hasReference s d = true ↔ LiveReference s d := by
  simp [hasReference, h, liveReference_iff]

theorem scannerReady_iff (s : State) :
    scannerReady s = decide (s.scanner.state = .settling ∨ s.scanner.state = .armed ∨
      s.scanner.state = .scanning) := by
  simp [scannerReady, beq_eq_decide, Bool.decide_or, Bool.or_assoc]

/-- AUTO asked for a leg in another mode: granted, or refused by the first check that fails (R119, R121). -/
theorem takeSetLegMode_auto {leg : Byte} {d : Side} (hd : sideOfCode leg.toNat = some d) {s : State}
    (h : (legOf s d).mode ≠ .auto) :
    takeSetLegMode leg 2 s =
      match autoRefusal s d with
      | some why => (s, refuse .notAllowed why)
      | none => grantMode s d .auto := by
  rw [takeSetLegMode_of_codes hd (m := .auto) rfl]
  unfold setMode
  rw [if_pos rfl, if_neg h] <;> rfl

/-- A leg in AUTO already is answered with its output (R121). -/
theorem takeSetLegMode_already {leg : Byte} {d : Side} (hd : sideOfCode leg.toNat = some d) {s : State}
    (h : (legOf s d).mode = .auto) :
    takeSetLegMode leg 2 s =
      (s, answer .done [u8 (sideCode d), u8 2, signed2 (legOf s d).output]) := by
  rw [takeSetLegMode_of_codes hd (m := .auto) rfl, setMode, if_pos rfl, if_pos h]
  simp only [legFields, h]
  rfl

/-- Settles O42: the checks of R119 in their order, each in the words of its rule. -/
theorem setLegModeAutoChecks : Obligations.SetLegModeAutoChecks := by
  unfold Obligations.SetLegModeAutoChecks
  intro tag leg s hs
  refine ⟨fun hleg => exec_refused rfl hs ?badLeg, fun d hd => ⟨fun hauto => exec_refused rfl hs ?already,
    fun hother => ⟨(s.advance.holds.get .startup).isNone, scannerReady s,
      (targetAt s s.travel.station).isSome, hasReference s d, rfl, scannerReady_iff s,
      targetAt_isSome_iff s _, hasReference_of_base, hasReference_of_no_base,
      fun hstartup hsupply hstop hready htarget href => ?granted, fun why hwhy => exec_refused rfl hs ?refused⟩⟩⟩
  case badLeg => simp only [takeRequest, takeSetLegMode, sideOfCode_none.mpr hleg]
  case already => exact takeSetLegMode_already hd (s := countGood s) hauto
  case granted =>
    have hnone : autoRefusal s d = none := by
      simp [autoRefusal, hsupply, hstop, hready, href, Option.isNone_iff_eq_none.mp hstartup,
        Option.isSome_iff_ne_none.mp htarget]
    have htaken := takeSetLegMode_auto hd (s := countGood s) hother
    rw [show autoRefusal (countGood s) d = none from hnone, grantMode_eq, if_pos rfl, List.append_nil] at htaken
    refine exec_answered rfl hs htaken (hv := ?_)
    by_cases hh : (legOf s d).mode = .hold
    · have hh' : (legOf (countGood s) d).mode = .hold := hh
      simp only [hh, hh', ne_eq, true_and, if_true]
      rfl
    · have hh' : (legOf (countGood s) d).mode ≠ .hold := hh
      simp only [hh, hh', false_and, if_false]
      rfl
  case refused =>
    have hsome : autoRefusal s d = some why := by
      unfold autoRefusal
      rw [← Option.not_isSome (a := targetAt _ _)]
      rcases hwhy with ⟨h, rfl⟩ | ⟨h, h1, rfl⟩ | ⟨h, h1, h2, rfl⟩ | ⟨h, h1, h2, h3, rfl⟩ |
        ⟨h, h1, h2, h3, h4, rfl⟩ | ⟨h, h1, h2, h3, h4, h5, rfl⟩ <;> simp_all
    have htaken := takeSetLegMode_auto hd (s := countGood s) hother
    rw [show autoRefusal (countGood s) d = some why from hsome] at htaken
    exact htaken

/-! ## Jogs -/

theorem JogDirection.ofCode_none : ∀ {n : Nat}, JogDirection.ofCode n = none ↔ 1 < n
  | 0 | 1 => by decide
  | n + 2 => by simp [Machine.JogDirection.ofCode]

/-- A jog that passes the checks: its leg is driven at the clamped permille (R125). -/
theorem startJog_eq {s : State} {d : Side} {dir : JogDirection} {n duration : Nat}
    (hsupply : s.legs.supplyLow = false) (hraise : dir = .raise → (legOf s d).upper = false)
    (hlower : dir = .lower → (legOf s d).lower = false) :
    startJog s d dir n duration =
      setLeg s d ({ legOf s d with jog := some { dir := dir, permille := n, duration := duration } }.driven
        (s.setup.legs.get d) (jogOutput dir n)) := by
  unfold startJog
  rw [applyOutput_eq, if_neg]
  cases dir with
  | raise => simp [jogOutput, hsupply, hraise rfl]
  | lower => simp [jogOutput, hsupply, hlower rfl]

/-- The coil a jog drives carries the current of its permille (R116, R125). -/
theorem drivenCoil_driven (l : Leg) (p : LegSetup) (dir : JogDirection) (n : Nat) :
    drivenCoil (l.driven p (jogOutput dir n)) dir = drivenCurrent p (jogOutput dir n) := by
  by_cases hn : n = 0
  · subst hn
    cases dir <;> rfl
  · cases dir <;> simp [drivenCoil, Leg.driven, jogOutput, Nat.pos_of_ne_zero hn]

theorem limitToward_iff (l : Leg) (dir : JogDirection) :
    limitToward l dir = true ↔ dir = .raise ∧ l.upper = true ∨ dir = .lower ∧ l.lower = true := by
  cases dir <;> simp [limitToward]

theorem takeJogLeg_of_codes {leg direction : Byte} {d : Side} {dir : JogDirection}
    (hd : sideOfCode leg.toNat = some d) (hdir : JogDirection.ofCode direction.toNat = some dir)
    (permille duration : BitVec 16) (s : State) :
    takeJogLeg leg direction permille duration s =
      match jogRefusal s d dir duration.toNat with
      | some a => (s, a)
      | none =>
        (startJog s d dir (clampNat 0 1000 permille.toNat) duration.toNat,
          answer (if clampNat 0 1000 permille.toNat ≠ permille.toNat then .clamped else .done)
            (legFields (startJog s d dir (clampNat 0 1000 permille.toNat) duration.toNat) d ++
              [field2 (drivenCoil (legOf (startJog s d dir (clampNat 0 1000 permille.toNat) duration.toNat) d)
                dir)])) := by
  simp only [takeJogLeg, hd, hdir] <;> rfl

theorem clampNat_zero (hi x : Nat) : clampNat 0 hi x = min hi x := by
  unfold clampNat
  split
  · omega
  · split <;> omega

/-- Settles O43: a jog accepted, refused by the first check that fails, and ended by its timer. -/
theorem jogRunsAndEnds : Obligations.JogRunsAndEnds := by
  unfold Obligations.JogRunsAndEnds
  refine ⟨?runs, ?refused, fun s d h => ?ends⟩
  case runs =>
    rintro tag leg direction permille duration s d dir n u hs hd hdir hmin hmax hmode hstartup hsupply hraise
      hlower rfl rfl
    have hu : jogOutput dir (min 1000 permille.toNat) =
        if dir = JogDirection.raise then -((min 1000 permille.toNat : Nat) : Int)
        else (min 1000 permille.toNat : Nat) := by cases dir <;> rfl
    have hlimit : limitToward (legOf s d) dir = false := by
      cases dir with
      | raise => exact hraise rfl
      | lower => exact hlower rfl
    have hnone : jogRefusal (countGood s) d dir duration.toNat = none := by
      have hdur : ¬(duration.toNat < 10 ∨ 2000 < duration.toNat) := by omega
      have hgood : jogRefusal (countGood s) d dir duration.toNat = jogRefusal s d dir duration.toNat := rfl
      rw [hgood, jogRefusal, if_neg hdur]
      simp [hmode, hstartup, hsupply, hlimit]
    have hcode : (clampNat 0 1000 permille.toNat ≠ permille.toNat) ↔ ¬permille.toNat ≤ 1000 := by
      rw [clampNat_zero]
      omega
    have htaken := takeJogLeg_of_codes hd hdir permille duration (countGood s)
    rw [hnone] at htaken
    simp only [hcode, ite_not] at htaken
    rw [clampNat_zero, startJog_eq (s := countGood s) hsupply hraise hlower, legOf_setLeg_self,
      drivenCoil_driven, legFields, legOf_setLeg_self] at htaken
    refine exec_answered rfl hs htaken (hv := ?_)
    have hcodeMode : (legOf s d).mode.code = 1 := by rw [hmode]; rfl
    rw [← hu, ← hcodeMode]
    rfl
  case refused =>
    intro tag leg direction permille duration s a hs ha
    refine exec_refused rfl hs ?_
    rcases ha with ⟨hleg, rfl⟩ | ⟨hleg, hdir, rfl⟩ | ⟨d, dir, hd, hdir, ha⟩
    · simp only [takeRequest, takeJogLeg, sideOfCode_none.mpr hleg]
    · obtain ⟨d, hd⟩ := Option.ne_none_iff_exists'.mp (sideOfCode_none.not.mpr (Nat.not_lt.mpr hleg))
      simp only [takeRequest, takeJogLeg, hd, JogDirection.ofCode_none.mpr hdir]
    · have hsome : jogRefusal (countGood s) d dir duration.toNat = some a := by
        have hgood : jogRefusal (countGood s) d dir duration.toNat = jogRefusal s d dir duration.toNat := rfl
        rw [hgood, jogRefusal]
        rcases ha with ⟨hdur, rfl⟩ | ⟨hmin, hmax, ha⟩
        · rw [if_pos hdur]
        · have hdur : ¬(duration.toNat < 10 ∨ 2000 < duration.toNat) := by omega
          rw [if_neg hdur]
          rcases ha with ⟨hmode, rfl⟩ | ⟨hmode, hstartup, rfl⟩ | ⟨hmode, hstartup, hsupply, rfl⟩ |
            ⟨hmode, hstartup, hsupply, hlimit, rfl⟩
          · simp [hmode]
          · simp [hmode, Option.isSome_iff_ne_none.mpr hstartup]
          · simp [hmode, hstartup, hsupply]
          · simp [hmode, hstartup, hsupply, (limitToward_iff _ _).mpr hlimit]
      have htaken := takeJogLeg_of_codes hd hdir permille duration (countGood s)
      rw [hsome] at htaken
      exact htaken
  case ends =>
    refine congrArg Host.Outcome.next ((if_pos h).trans ?_)
    have hrest := driveLeg_zero (s.setup.legs.get d) (legOf s d) (legOf s d).mode
    unfold endJog
    rw [show ({ legOf s d with jog := none } : Leg) = { legOf s d with mode := (legOf s d).mode, jog := none }
      from rfl, hrest]
    rfl

end Sys2Proof.Machine
end

section
/-! The legs' rules over a step: never both coils of a leg, no output on a resting leg, a jog only in MANUAL. -/

namespace Sys2Proof.Machine

open Sys2Proof

/-! ## One leg -/

section
variable {low : Bool} {l : Leg}

/-- A leg driven at a value within its rules. -/
theorem legInv_driven (p : LegSetup) {u : Int} (hrest : l.mode = .off ∨ l.mode = .hold ∨ low = true → u = 0)
    (hjog : l.jog.isSome → l.mode = .manual) : LegInv low (l.driven p u) := by
  refine ⟨?_, fun h => ?_, hjog⟩
  · by_cases hu : u < 0
    · exact .inr (if_neg (by omega))
    · exact .inl (if_neg hu)
  · cases hrest h
    exact ⟨rfl, rfl, rfl⟩

theorem legInv_restedIn (low : Bool) (l : Leg) (m : LegMode) : LegInv low (l.restedIn m) :=
  ⟨.inl rfl, fun _ => ⟨rfl, rfl, rfl⟩, nofun⟩

/-- The rules read neither limit, and a jog that has ended breaks none. -/
theorem LegInv.of_outputs {m : Leg} (h : LegInv low l) (hmode : m.mode = l.mode) (hout : m.output = l.output)
    (hraise : m.raiseCoil = l.raiseCoil) (hlower : m.lowerCoil = l.lowerCoil)
    (hjog : m.jog.isSome → l.jog.isSome) : LegInv low m := by
  unfold LegInv
  rw [hmode, hout, hraise, hlower]
  exact ⟨h.1, h.2.1, fun hm => h.2.2 (hjog hm)⟩

/-- The supply may rise on a leg within its rules. -/
theorem LegInv.of_low (h : LegInv true l) : LegInv low l := ⟨h.1, fun _ => h.2.1 (by simp), h.2.2⟩

/-- A leg at rest stays within its rules as the supply falls. -/
theorem LegInv.of_resting (h : LegInv low l) (hm : l.mode = .off ∨ l.mode = .hold) : LegInv true l :=
  ⟨h.1, fun _ => h.2.1 (by tauto), h.2.2⟩

theorem setLimit_fields (l : Leg) (w : LimitSwitch) (active : Bool) :
    (setLimit l w active).mode = l.mode ∧ (setLimit l w active).output = l.output ∧
      (setLimit l w active).raiseCoil = l.raiseCoil ∧ (setLimit l w active).lowerCoil = l.lowerCoil ∧
      (setLimit l w active).jog = l.jog := by
  cases w <;> simp [setLimit]

/-- A limit ends a jog and starts none (R127). -/
theorem jogAtLimit_isSome (w : LimitSwitch) (j : Option Jog) (h : (jogAtLimit w j).isSome) : j.isSome := by
  cases j with
  | none => cases w <;> exact h
  | some j => rfl

theorem legInv_setLimit (h : LegInv low l) (w : LimitSwitch) (active : Bool) :
    LegInv low (setLimit l w active) := by
  obtain ⟨hmode, hout, hraise, hlower, hjog⟩ := setLimit_fields l w active
  exact h.of_outputs hmode hout hraise hlower (by rw [hjog]; exact id)

/-- A limit that becomes active keeps a leg within its rules (R127). -/
theorem legInv_cutAtLimit (p : LegSetup) (h : LegInv low l) (w : LimitSwitch) :
    LegInv low (cutAtLimit p l w) := by
  have hm : LegInv low (setLimit { l with jog := jogAtLimit w l.jog } w true) :=
    legInv_setLimit (h.of_outputs (m := { l with jog := jogAtLimit w l.jog }) rfl rfl rfl rfl
      (jogAtLimit_isSome w l.jog)) w true
  unfold cutAtLimit
  simp only
  split
  · exact legInv_driven p (fun _ => rfl) hm.2.2
  · exact hm

end

/-! ## Both legs -/

section
variable {s t : State}

theorem legsInv_iff (s : State) : LegsInv s ↔ ∀ d, LegInv s.legs.supplyLow (legOf s d) :=
  ⟨fun h d => by cases d with | left => exact h.1 | right => exact h.2, fun h => ⟨h .left, h .right⟩⟩

theorem LegsInv.leg (h : LegsInv s) (d : Side) : LegInv s.legs.supplyLow (legOf s d) := (legsInv_iff s).mp h d

/-- The rules read the Leg Drive alone. -/
theorem LegsInv.congr (h : LegsInv s) (ht : t.legs = s.legs) : LegsInv t := by
  unfold LegsInv
  rw [ht]
  exact h

theorem LegsInv.setLeg (h : LegsInv s) (d : Side) {l : Leg} (hl : LegInv s.legs.supplyLow l) :
    LegsInv (setLeg s d l) := by
  cases d with
  | left => exact ⟨hl, h.2⟩
  | right => exact ⟨h.1, hl⟩

theorem LegsInv.enterMode (h : LegsInv s) (d : Side) (m : LegMode) : LegsInv (enterMode s d m) := by
  rw [enterMode_eq]
  exact (h.setLeg d (legInv_restedIn _ _ m)).congr rfl

theorem LegsInv.holdIfAuto (h : LegsInv s) (d : Side) : LegsInv (holdIfAuto s d) := by
  unfold Machine.holdIfAuto
  split
  · exact h.enterMode d _
  · exact h

theorem LegsInv.holdAutoLegs (h : LegsInv s) : LegsInv (holdAutoLegs s) := (h.holdIfAuto _).holdIfAuto _

theorem LegsInv.applyOutput (h : LegsInv s) (d : Side) {l : Leg} (u : Int)
    (hmode : l.mode ≠ .off ∧ l.mode ≠ .hold) (hjog : l.jog.isSome → l.mode = .manual) :
    LegsInv (applyOutput s d l u) := by
  rw [applyOutput_eq]
  refine h.setLeg d (legInv_driven _ (fun hrest => if_pos (.inl ?_)) hjog)
  exact (hrest.resolve_left hmode.1).resolve_left hmode.2

theorem legOf_enterMode_self (s : State) (d : Side) (m : LegMode) :
    legOf (enterMode s d m) d = (legOf s d).restedIn m := by
  rw [enterMode_eq]
  exact Sides.get_set_self _ _ _

theorem legOf_enterMode_ne (s : State) {d e : Side} (m : LegMode) (h : e ≠ d) :
    legOf (enterMode s d m) e = legOf s e := by
  rw [enterMode_eq]
  exact Sides.get_set_ne _ _ _ _ h.symm

theorem enterMode_supplyLow (s : State) (d : Side) (m : LegMode) :
    (enterMode s d m).legs.supplyLow = s.legs.supplyLow := by rw [enterMode_eq]

theorem holdIfDriven_supplyLow (s : State) (d : Side) :
    (holdIfDriven s d).legs.supplyLow = s.legs.supplyLow := by
  unfold holdIfDriven
  split <;> simp [enterMode_supplyLow]

theorem legOf_holdIfDriven_ne (s : State) {d e : Side} (h : e ≠ d) : legOf (holdIfDriven s d) e = legOf s e := by
  unfold holdIfDriven
  split
  · exact legOf_enterMode_ne s _ h
  · exact legOf_enterMode_ne s _ h
  · rfl

/-- A leg driven or at rest, the supply's fall leaves it at rest (R162). -/
theorem legInv_holdIfDriven (s : State) (d : Side) {low : Bool} (h : LegInv low (legOf s d)) :
    LegInv true (legOf (holdIfDriven s d) d) := by
  unfold holdIfDriven
  cases hm : (legOf s d).mode with
  | off => exact h.of_resting (.inl hm)
  | hold => exact h.of_resting (.inr hm)
  | auto =>
    rw [legOf_enterMode_self]
    exact legInv_restedIn _ _ _
  | manual =>
    rw [legOf_enterMode_self]
    exact legInv_restedIn _ _ _

theorem LegsInv.supplyFall (h : LegsInv s) : LegsInv (legsSupplyFall s) := by
  rw [legsInv_iff]
  unfold legsSupplyFall
  rw [holdIfDriven_supplyLow, holdIfDriven_supplyLow]
  intro d
  cases d with
  | left =>
    rw [legOf_holdIfDriven_ne _ (by nofun)]
    exact legInv_holdIfDriven (s.setLegs _) .left h.1
  | right =>
    refine legInv_holdIfDriven _ .right (low := s.legs.supplyLow) ?_
    rw [legOf_holdIfDriven_ne _ (by nofun)]
    exact h.2

theorem LegsInv.stopSense (h : LegsInv s) : LegsInv (legsStopSense s) :=
  LegsInv.enterMode (LegsInv.enterMode (s := s.setLegs { s.legs with stopSense := true }) ⟨h.1, h.2⟩ .left _) .right _

/-! ## The commands -/

theorem LegsInv.setMode (h : LegsInv s) (d : Side) (m : LegMode) : LegsInv (setMode s d m).1 := by
  have hgrant : LegsInv (grantMode s d m).1 := by
    rw [grantMode_eq]
    exact (h.setLeg d (legInv_restedIn _ _ m)).congr rfl
  unfold Machine.setMode
  split
  · next hm =>
    subst hm
    split
    · exact h
    · split
      · exact h
      · exact hgrant
  · exact hgrant

/-- A jog passes its checks in MANUAL alone (R125). -/
theorem jogRefusal_manual {d : Side} {dir : JogDirection} {n : Nat} (h : jogRefusal s d dir n = none) :
    (legOf s d).mode = .manual := by
  unfold jogRefusal at h
  split at h
  · cases h
  · split at h
    · cases h
    · next hm => exact not_not.mp hm

theorem LegsInv.jog (h : LegsInv s) (leg dir : Byte) (p n : BitVec 16) :
    LegsInv (takeJogLeg leg dir p n s).1 := by
  unfold takeJogLeg
  split
  · exact h
  · exact h
  · next d dir _ _ =>
    cases hr : jogRefusal s d dir n.toNat with
    | some a => exact h
    | none =>
      have hm := jogRefusal_manual hr
      refine h.applyOutput d _ ?_ fun _ => hm
      change (legOf s d).mode ≠ .off ∧ (legOf s d).mode ≠ .hold
      rw [hm]
      exact ⟨nofun, nofun⟩

theorem LegsInv.recomputeCoils (h : LegsInv s) : LegsInv (recomputeCoils s) :=
  ⟨legInv_driven _ (fun hrest => (h.1.2.1 hrest).1) h.1.2.2,
    legInv_driven _ (fun hrest => (h.2.2.1 hrest).1) h.2.2.2⟩

/-- A Link Reset puts the legs in AUTO in HOLD (R130). -/
theorem linkResetActs_legs (s : State) :
    ∃ u : State, u.legs = s.legs ∧ (linkResetActs s).legs = (holdAutoLegs u).legs := by
  refine ⟨(programLinkReset ((clearNotices s).setLink { (clearNotices s).link with sequence := 0 })).setObstacles [],
    ?_, by simp [linkResetActs]⟩
  unfold programLinkReset
  simp only
  split <;> rfl

theorem LegsInv.linkReset (h : LegsInv s) : LegsInv (linkResetActs s) := by
  obtain ⟨u, hu, ht⟩ := linkResetActs_legs s
  exact (LegsInv.holdAutoLegs (h.congr hu)).congr ht

theorem LegsInv.takeRequest (h : LegsInv s) (r : Request) : LegsInv (takeRequest r s).1 := by
  cases r with
  | setLegMode leg mode =>
    show LegsInv (takeSetLegMode leg mode s).1
    unfold takeSetLegMode
    split
    · exact h
    · exact h
    · exact h.setMode _ _
  | jogLeg leg dir p n => exact h.jog leg dir p n
  | writeLeg g =>
    show LegsInv (takeWriteLeg g s).1
    unfold takeWriteLeg
    simp only
    split
    · exact h
    · exact LegsInv.recomputeCoils (s := setWorking s _) h
  | linkReset => exact h.linkReset
  | _ => exact h.congr ((takeRequest_writes s _).legs.resolve_left (Block.not_mem rfl))

theorem LegsInv.takeChange (h : LegsInv s) (c : InputChange) : LegsInv (takeChange s c) := by
  have hlimit : ∀ d w, LegsInv (limitChange s d w c.active) := by
    intro d w
    unfold limitChange
    simp only
    split
    · exact (h.setLeg d (legInv_cutAtLimit (s.setup.legs.get d) (h.leg d) w)).congr (by simp)
    · exact h.setLeg d (legInv_setLimit (h.leg d) w false)
  unfold Machine.takeChange
  cases c.input with
  | presence => exact h.congr (by simp)
  | leftUpper => exact hlimit .left .upper
  | leftLower => exact hlimit .left .lower
  | rightUpper => exact hlimit .right .upper
  | rightLower => exact hlimit .right .lower
  | stopSense =>
    simp only
    split
    · exact h.stopSense.congr (by simp [stopSenseActive])
    · split
      · exact LegsInv.congr (s := s.setLegs { s.legs with stopSense := false }) ⟨h.1, h.2⟩
          (by simp [stopSenseRelease])
      · exact h

theorem LegsInv.takeChanges (h : LegsInv s) (l : List InputChange) : LegsInv (takeChanges s l) := by
  have hfold : ∀ (l : List InputChange) {u}, LegsInv u → LegsInv (l.foldl Machine.takeChange u) := by
    intro l
    induction l with
    | nil => exact fun hu => hu
    | cons c l ih => exact fun hu => ih (hu.takeChange c)
  unfold Machine.takeChanges
  simp only
  split
  · exact hfold _ (LegsInv.congr (hfold _ h) rfl)
  · exact hfold _ (hfold _ h)

theorem LegsInv.takeMeasurement (h : LegsInv s) (m : Nat) : LegsInv (takeMeasurement s m) := by
  have hfall : ∀ u : State, u.legs = s.legs → LegsInv (Machine.supplyFall u m) := by
    intro u hu
    exact (h.congr hu).supplyFall.congr (by simp [Machine.supplyFall])
  have hrise : ∀ u : State, u.legs = s.legs → LegsInv (supplyRise u) := by
    intro u hu
    have hs : LegsInv u := h.congr hu
    cases hlow : u.legs.supplyLow with
    | false =>
      exact hs.congr (by simp [supplyRise, ← hlow])
    | true =>
      unfold LegsInv at hs
      rw [hlow] at hs
      exact LegsInv.congr (s := u.setLegs { u.legs with supplyLow := false }) ⟨hs.1.of_low, hs.2.of_low⟩
        (by simp [supplyRise])
  unfold Machine.takeMeasurement
  simp only
  split
  · exact hfall _ rfl
  · exact hfall _ rfl
  · exact h.congr (by simp)
  · exact (hrise (s.setSupply { state := nextSupply s.supply.state s.setup.limits.pair m, last := m }) rfl).congr
      (by simp)
  · exact h.congr rfl

theorem LegsInv.event {i : Instr} (hi : consoleRow i = false) (h : LegsInv s) (ht : exec i s = .next t) :
    LegsInv t := by
  cases i with
  | fullReset a b =>
    cases ht
    exact ⟨⟨.inl rfl, fun _ => ⟨rfl, rfl, rfl⟩, nofun⟩, ⟨.inl rfl, fun _ => ⟨rfl, rfl, rfl⟩, nofun⟩⟩
  | legCommand d u =>
    cases ht
    unfold takeLegCommand
    simp only
    split
    · next hm =>
      refine LegsInv.applyOutput (s := takeHanded s _) h d _ ?_ (h.leg d).2.2
      exact ⟨by rw [hm]; nofun, by rw [hm]; nofun⟩
    · exact h
  | referenceLostRequest d =>
    cases ht
    split
    · exact LegsInv.enterMode (s := takeHanded s _) h d _
    · exact h.congr rfl
  | noTargetRequest d => cases ht; exact LegsInv.holdIfAuto (s := takeHanded s _) h d
  | targetLost => cases ht; exact LegsInv.holdAutoLegs (s := takeHanded s _) h
  | jogTimerExpiry d =>
    cases ht
    split
    · exact h.setLeg d (legInv_driven _ (fun _ => rfl) nofun)
    · exact h
  | switchSample closed => cases ht; exact LegsInv.takeChanges (s := s.setInputs (sampleInputs s.inputs closed)) h _
  | supplyMeasurement millivolts =>
    cases ht
    split
    · exact h
    · exact h.takeMeasurement _
  | _ => exact h.congr ((event_writes hi ht).legs.resolve_left (Block.not_mem rfl))

end

/-- Settles O4: each command that writes the legs keeps both legs within their rules. -/
theorem legsInvKept : Obligations.LegsInvKept := by
  unfold Obligations.LegsInvKept
  have hconsole : ConsoleProp LegsInv :=
    { link := fun _ h => h, notices := fun _ h => h, handed := fun _ h => h, freeCount := fun _ h => h,
      pending := fun _ h => h, request := fun r _ h => h.takeRequest r }
  exact hconsole.step fun hi h ht => h.event hi ht

end Sys2Proof.Machine
end

section
/-! The speed cap over a step: every change of the hold set or of the limits recomputes it. -/

namespace Sys2Proof.Machine

open Sys2Proof

theorem HoldReason.mem_all (r : HoldReason) : r ∈ HoldReason.all := by cases r <;> decide

/-- One more reason looked at in the search for the least cap (R158). -/
def lesserCap (holds : PerReason (Option Nat)) (m : Nat) (r : HoldReason) : Nat :=
  match holds.get r with
  | some c => min m c
  | none => m

/-- The search's value is the start or the cap of a reason looked at, and no more than any of them. -/
theorem foldl_lesserCap (holds : PerReason (Option Nat)) (l : List HoldReason) (m : Nat) :
    l.foldl (lesserCap holds) m ≤ m ∧
      (∀ r ∈ l, ∀ c, holds.get r = some c → l.foldl (lesserCap holds) m ≤ c) ∧
      (l.foldl (lesserCap holds) m = m ∨ ∃ r, holds.get r = some (l.foldl (lesserCap holds) m)) := by
  induction l generalizing m with
  | nil => exact ⟨le_refl m, nofun, .inl rfl⟩
  | cons r l ih =>
    obtain ⟨hle, hall, hattained⟩ := ih (lesserCap holds m r)
    rw [List.foldl_cons]
    cases hr : holds.get r with
    | none =>
      have hm : lesserCap holds m r = m := by simp [lesserCap, hr]
      rw [hm] at hle hall hattained ⊢
      refine ⟨hle, fun k hk c hc => ?_, hattained⟩
      rcases List.mem_cons.mp hk with rfl | hk
      · exact absurd hc (by simp [hr])
      · exact hall k hk c hc
    | some n =>
      have hm : lesserCap holds m r = min m n := by simp [lesserCap, hr]
      rw [hm] at hle hall hattained ⊢
      refine ⟨le_trans hle (min_le_left m n), fun k hk c hc => ?_, ?_⟩
      · rcases List.mem_cons.mp hk with rfl | hk
        · rw [hr] at hc
          cases hc
          exact le_trans hle (min_le_right m n)
        · exact hall k hk c hc
      · rcases hattained with heq | hex
        · rcases min_choice m n with hmin | hmin
          · exact .inl (heq.trans hmin)
          · exact .inr ⟨r, by rw [hr, heq, hmin]⟩
        · exact .inr hex

section
variable {s t : State}

/-- The rule reads the Advance Limit and the limits of the setup. -/
theorem CapInv.congr (h : CapInv s) (ha : t.advance = s.advance) (hl : t.store.working.limits = s.store.working.limits) :
    CapInv t := by
  unfold CapInv State.setup
  rw [ha, hl]
  exact h

/-- A hold set replaced meets the rule, whatever stood before (R158). -/
theorem capInv_setHolds (s : State) (holds : PerReason (Option Nat)) : CapInv (setHolds s holds) := by
  obtain ⟨hle, hall, hattained⟩ := foldl_lesserCap holds HoldReason.all s.setup.limits.maxSpeed
  exact ⟨hle, fun r c hc => hall r (HoldReason.mem_all r) c hc, hattained, rfl⟩

/-- A Link Reset withdraws PROGRAM_END, and leaves the limits (R163, R179). -/
theorem capInv_linkReset (s : State) : CapInv (linkResetActs s) := by
  unfold linkResetActs
  simp only
  generalize (programLinkReset _).setObstacles [] = u
  have hcap : CapInv (withdrawReason (holdAutoLegs u) .programEnd) := capInv_setHolds _ _
  exact hcap.congr rfl rfl

theorem CapInv.takeRequest (h : CapInv s) (r : Request) : CapInv (takeRequest r s).1 := by
  cases r with
  | releaseHold reason =>
    show CapInv (takeReleaseHold reason s).1
    unfold takeReleaseHold
    split
    · exact h
    · split
      · exact h
      · exact capInv_setHolds s _
  | linkReset => exact capInv_linkReset s
  | writeLimits g =>
    show CapInv (takeWriteLimits g s).1
    unfold takeWriteLimits
    split
    · exact h
    · exact h
    · exact capInv_setHolds _ _
  | _ =>
    exact h.congr ((takeRequest_writes s _).advance.resolve_left (Block.not_mem rfl))
      ((takeRequest_writes s _).limits.resolve_left (Block.not_mem rfl))

theorem CapInv.event {i : Instr} (hi : consoleRow i = false) (h : CapInv s) (ht : exec i s = .next t) :
    CapInv t := by
  cases i with
  | fullReset a b =>
    cases ht
    refine ⟨Nat.zero_le _, fun _ _ _ => Nat.zero_le _, .inr ⟨.startup, rfl⟩, rfl⟩
  | setupLoad =>
    cases ht
    split
    · have hload : CapInv (takeSettings s (loadChoice s.store).1) :=
        CapInv.congr (s := setHolds _ _) (capInv_setHolds _ _) rfl rfl
      unfold load
      simp only
      split
      · exact hload.congr (by simp) (by simp)
      · exact hload.congr rfl rfl
    · exact h
  | startupSettleExpiry =>
    cases ht
    split
    · split
      · exact capInv_setHolds _ _
      · exact h.congr rfl rfl
    · exact h
  | reasonAdd r cap => cases ht; exact capInv_setHolds _ _
  | reasonWithdraw r => cases ht; exact capInv_setHolds _ _
  | programEndAhead => cases ht; exact capInv_setHolds _ _
  | _ =>
    have hw := event_writes hi ht
    exact h.congr (hw.advance.resolve_left (Block.not_mem rfl)) (hw.limits.resolve_left (Block.not_mem rfl))

end

/-- Settles O5: a step either recomputes the cap or leaves the hold set and the limits. -/
theorem capInvKept : Obligations.CapInvKept := by
  unfold Obligations.CapInvKept
  have hconsole : ConsoleProp CapInv :=
    { link := fun _ h => h, notices := fun _ h => h, handed := fun _ h => h, freeCount := fun _ h => h,
      pending := fun _ h => h, request := fun r _ h => h.takeRequest r }
  exact hconsole.step fun hi h ht => h.event hi ht

end Sys2Proof.Machine
end

section
/-! The travel count over a step: the station, f, the edge count, and the pulses per metre of every setup held. -/

namespace Sys2Proof.Machine

open Sys2Proof

/-- A pulse keeps the station and f within their ranges (R3 to R5). -/
theorem pulseMove_inRange {p x f y g : Nat} {dir : Direction} (hp : 100 ≤ p) (hx : x ≤ maxStation) (hf : f < p)
    (h : pulseMove p dir x f = some (y, g)) : y ≤ maxStation ∧ g < p := by
  unfold pulseMove at h
  cases dir with
  | forward =>
    simp only at h
    split at h
    · cases h; omega
    · split at h
      · cases h
      · cases h; omega
  | reverse =>
    simp only at h
    split at h
    · cases h; omega
    · split at h
      · cases h
      · cases h; omega

theorem clampNat_ge {lo hi x : Nat} (h : lo ≤ hi) : lo ≤ clampNat lo hi x := by
  unfold clampNat
  split
  · exact le_refl lo
  · split <;> omega

/-- A GEOMETRY as a write holds it has at least 100 pulses per metre (R181). -/
theorem geometryOfWire_pulses {w : GeometryWire} {g : Geometry} (h : geometryOfWire w = some g) :
    100 ≤ g.pulses := by
  unfold geometryOfWire at h
  split at h
  · cases h
    exact clampNat_ge (by decide)
  · cases h

/-- A station change is counted toward the next distance trigger (R10). -/
theorem countDistance_travel (s : State) :
    (countDistance s).travel =
      { s.travel with
        triggerCount := if s.setup.scan.distance ≤ s.travel.triggerCount + 1 then 0
          else s.travel.triggerCount + 1 } := by
  simp only [countDistance]
  split <;> simp

theorem stationMoved_travel (s : State) (x : Nat) (d : Direction) :
    (stationMoved s x d).travel =
      { s.travel with
        triggerCount := if s.setup.scan.distance ≤ s.travel.triggerCount + 1 then 0
          else s.travel.triggerCount + 1 } := by
  simp [stationMoved, countDistance_travel, State.setup]
  rfl

section
variable {s t : State}

/-- The ranges read the travel count, the GEOMETRY, and what is stored or being stored. -/
theorem TravelInv.congr (h : TravelInv s) (hx : t.travel.station = s.travel.station)
    (hf : t.travel.frac = s.travel.frac) (he : t.travel.edges = s.travel.edges)
    (hg : t.store.working.geometry = s.store.working.geometry)
    (hs : t.store.stored = s.store.stored ∧ t.store.storing = s.store.storing) : TravelInv t := by
  unfold TravelInv PulsesOk State.setup
  rw [hx, hf, he, hg, hs.1, hs.2]
  exact h

theorem TravelInv.of_blocks (h : TravelInv s) (ht : t.travel = s.travel)
    (hg : t.store.working.geometry = s.store.working.geometry)
    (hs : t.store.stored = s.store.stored ∧ t.store.storing = s.store.storing) : TravelInv t :=
  h.congr (by rw [ht]) (by rw [ht]) (by rw [ht]) hg hs

/-- A count re-based under a setup that can run keeps the ranges. -/
theorem TravelInv.rebased (h : TravelInv s) (hx : t.travel.station ≤ maxStation) (hf : t.travel.frac = 0)
    (he : t.travel.edges = 0) (hg : PulsesOk t.store.working)
    (hs : t.store.stored = s.store.stored ∧ t.store.storing = s.store.storing) : TravelInv t := by
  obtain ⟨-, -, -, -, -, hstored, hstoring⟩ := h
  unfold PulsesOk at hg
  refine ⟨hx, ?_, ?_, ?_, hg, hs.1 ▸ hstored, hs.2 ▸ hstoring⟩
  · rw [hf, State.setup]
    omega
  · rw [he]; decide
  · rw [he]; decide

theorem TravelInv.setStation (h : TravelInv s) (x : BitVec 24) : TravelInv (takeSetStation x s).1 := by
  unfold takeSetStation
  split
  · exact h
  · refine h.rebased ?_ ?_ ?_ ?_ ?_
    · simp only [forgetBase, State.setScanner_travel, State.setGrade_travel, obstacleStationChange_frame,
        programStationChange_frame, State.setTravel_travel]
      have := x.isLt
      unfold maxStation
      omega
    · simp [forgetBase]
    · simp [forgetBase]
    · simpa [forgetBase, State.setup] using h.2.2.2.2.1
    · simp [forgetBase]

theorem TravelInv.takeRequest (h : TravelInv s) (r : Request) : TravelInv (takeRequest r s).1 := by
  cases r with
  | setStation x => exact h.setStation x
  | writeGeometry w =>
    show TravelInv (takeWriteGeometry w s).1
    unfold takeWriteGeometry
    split
    · exact h
    · exact h
    · exact h
    · split
      · exact h
      · next hw _ _ => exact h.rebased h.1 rfl rfl (geometryOfWire_pulses hw) ⟨rfl, rfl⟩
  | writeScan w =>
    show TravelInv (takeWriteScan w s).1
    unfold takeWriteScan
    split
    · exact h
    · exact h
    · exact h
    · split
      · exact h
      · next held _ _ _ _ _ =>
        obtain ⟨v, hv⟩ := applyScan_eq s held
        simp only [hv]
        exact h.congr rfl rfl rfl rfl ⟨rfl, rfl⟩
  | storeSetup =>
    show TravelInv (takeStoreSetup s).1
    unfold takeStoreSetup
    split
    · exact h
    · obtain ⟨hx, hf, hlo, hhi, hp, -, -⟩ := h
      refine ⟨hx, hf, hlo, hhi, hp, fun p hs => ?_, fun p hs => ?_⟩
      · simp at hs
      · rw [State.setStore_store] at hs
        exact Option.some_inj.mp hs ▸ hp
  | _ =>
    exact h.of_blocks ((takeRequest_writes s _).travel.resolve_left (Block.not_mem rfl))
      ((takeRequest_writes s _).geometry.resolve_left (Block.not_mem rfl))
      ((takeRequest_writes s _).stored.resolve_left (Block.not_mem rfl))

/-- A pulse is counted within the ranges, or discarded (R3 to R5). -/
theorem TravelInv.countPulse (h : TravelInv s) (dir : Direction) : TravelInv (countPulse s dir) := by
  obtain ⟨hx, hf, hlo, hhi, hp, hstored, hstoring⟩ := h
  unfold Machine.countPulse
  split
  · exact ⟨hx, hf, hlo, hhi, hp, hstored, hstoring⟩
  · next y g hmove =>
    obtain ⟨hy, hg⟩ := pulseMove_inRange hp hx hf hmove
    have hpulsed : TravelInv (s.setTravel (pulsedTravel s.travel dir y g)) :=
      ⟨hy, hg, hlo, hhi, hp, hstored, hstoring⟩
    have hmoved : ∀ {u : State}, TravelInv u → TravelInv (stationMoved u s.travel.station dir) := fun hu =>
      hu.congr (by rw [stationMoved_travel]) (by rw [stationMoved_travel]) (by rw [stationMoved_travel])
        (by simp) (by simp)
    simp only
    split <;> split
    · exact hpulsed.congr rfl rfl rfl rfl ⟨rfl, rfl⟩
    · exact hpulsed
    · exact hmoved (hpulsed.congr rfl rfl rfl rfl ⟨rfl, rfl⟩)
    · exact hmoved hpulsed

/-- What the load takes can run: the factory defaults, or the stored copy (R185). -/
theorem TravelInv.loadChoice (h : TravelInv s) : PulsesOk (loadChoice s.store).1 := by
  unfold Machine.loadChoice
  split
  · exact (by decide : (100 : Nat) ≤ 1000)
  · split
    · next p hp => exact h.2.2.2.2.2.1 p hp
    · exact (by decide : (100 : Nat) ≤ 1000)

theorem TravelInv.event {i : Instr} (hi : consoleRow i = false) (h : TravelInv s) (ht : exec i s = .next t) :
    TravelInv t := by
  cases i with
  | fullReset a b =>
    cases ht
    obtain ⟨-, -, -, -, -, hstored, -⟩ := h
    refine ⟨Nat.zero_le _, (by decide : (0 : Nat) < 1000), (by decide : (-3 : Int) ≤ 0), (by decide : (0 : Int) ≤ 3),
      (by decide : (100 : Nat) ≤ 1000), hstored, fun p hp => ?_⟩
    change none = some p at hp
    cases hp
  | setupLoad =>
    cases ht
    split
    · have hload : TravelInv (takeSettings s (Machine.loadChoice s.store).1) :=
        h.rebased h.1 rfl rfl h.loadChoice ⟨rfl, rfl⟩
      unfold load
      simp only
      split
      · exact hload.congr (by simp) (by simp) (by simp) (by simp) (by simp)
      · exact hload.congr rfl rfl rfl rfl ⟨rfl, rfl⟩
    · exact h
  | encoderEdge a b =>
    cases ht
    obtain ⟨hx, hf, hlo, hhi, hp, hstored⟩ := h
    have hzero : TravelInv (s.setTravel (edged s.travel a b 0)) :=
      ⟨hx, hf, (by decide : (-3 : Int) ≤ 0), (by decide : (0 : Int) ≤ 3), hp, hstored⟩
    split
    · exact ⟨hx, hf, hlo, hhi, hp, hstored⟩
    · exact hzero
    · split
      · exact hzero.countPulse _
      · next hn =>
        exact ⟨hx, hf, (by omega : -3 ≤ s.travel.edges + 1), (by omega : s.travel.edges + 1 ≤ 3), hp, hstored⟩
    · split
      · exact hzero.countPulse _
      · next hn =>
        exact ⟨hx, hf, (by omega : -3 ≤ s.travel.edges - 1), (by omega : s.travel.edges - 1 ≤ 3), hp, hstored⟩
  | speedIntervalEnd => cases ht; exact h.congr rfl rfl rfl rfl ⟨rfl, rfl⟩
  | standstillTimerExpiry =>
    cases ht
    split
    · exact h.congr rfl rfl rfl rfl ⟨rfl, rfl⟩
    · exact h
  | standstillTriggerTimerExpiry =>
    cases ht
    split
    · exact h
    · exact h.congr rfl rfl rfl rfl ⟨rfl, rfl⟩
  | storeTimerExpiry =>
    cases ht
    split
    · exact h
    · next p hp =>
      obtain ⟨hx, hf, hlo, hhi, hpulses, -, hstoring⟩ := h
      refine ⟨hx, hf, hlo, hhi, hpulses, fun q hq => ?_, fun q hq => ?_⟩
      · rw [State.setStore_store] at hq
        exact Option.some_inj.mp hq ▸ hstoring p hp
      · simp at hq
  | _ =>
    exact h.of_blocks ((event_writes hi ht).travel.resolve_left (Block.not_mem rfl))
      ((event_writes hi ht).geometry.resolve_left (Block.not_mem rfl))
      ((event_writes hi ht).stored.resolve_left (Block.not_mem rfl))

end

/-- Settles O7: a pulse moves the count within its ranges, and every setup that can come to run has its pulses. -/
theorem travelInvKept : Obligations.TravelInvKept := by
  unfold Obligations.TravelInvKept
  have hconsole : ConsoleProp TravelInv :=
    { link := fun _ h => h, notices := fun _ h => h, handed := fun _ h => h, freeCount := fun _ h => h,
      pending := fun _ h => h, request := fun r _ h => h.takeRequest r }
  exact hconsole.step fun hi h ht => h.event hi ht

end Sys2Proof.Machine
end

section
/-! The obstacle table and the truck log over a step: the order and the places of the entries, the length of the
log. -/

namespace Sys2Proof.Machine

open Sys2Proof

/-! ## The obstacle table -/

/-- The table order of two entries, which share no id (R68). -/
def Obstacle.precedes (a b : Obstacle) : Prop :=
  (a.start < b.start ∨ a.start = b.start ∧ a.id < b.id) ∧ a.id ≠ b.id

/-- A table in order, with no more than 24 entries (R68). -/
def TableOrdered (os : List Obstacle) : Prop := os.length ≤ 24 ∧ os.Pairwise Obstacle.precedes

/-- An entry with the same id and start stands at the same place. -/
def Obstacle.SamePlace (a b : Obstacle) : Prop := b.id = a.id ∧ b.start = a.start

theorem Obstacle.SamePlace.refl (a : Obstacle) : a.SamePlace a := ⟨rfl, rfl⟩

theorem Obstacle.SamePlace.trans {a b c : Obstacle} (h : a.SamePlace b) (k : b.SamePlace c) : a.SamePlace c :=
  ⟨k.1.trans h.1, k.2.trans h.2⟩

/-- Entries changed where they stand keep the table in order. -/
theorem TableOrdered.map {os : List Obstacle} (h : TableOrdered os) {f : Obstacle → Obstacle}
    (hf : ∀ o : Obstacle, o.SamePlace (f o)) : TableOrdered (os.map f) := by
  refine ⟨by simpa using h.1, List.pairwise_map.mpr (h.2.imp fun {a b} hab => ?_)⟩
  unfold Obstacle.precedes
  rw [(hf a).1, (hf a).2, (hf b).1, (hf b).2]
  exact hab

theorem TableOrdered.filter {os : List Obstacle} (h : TableOrdered os) (p : Obstacle → Bool) :
    TableOrdered (os.filter p) :=
  ⟨le_trans (List.length_filter_le p os) h.1, h.2.filter p⟩

theorem Obstacle.move_samePlace (o : Obstacle) (y x : Nat) (dir : Direction) : o.SamePlace (o.move y x dir) := by
  unfold Obstacle.move Obstacle.enter Obstacle.leave Obstacle.stayOutside
  (repeat' split) <;> exact ⟨rfl, rfl⟩

theorem Obstacle.settle_samePlace (o : Obstacle) (x : Nat) : o.SamePlace (o.settle x) := by
  unfold Obstacle.settle Obstacle.markSampled Obstacle.judge Obstacle.markWatched
  (repeat' split) <;> exact ⟨rfl, rfl⟩

theorem Obstacle.evaluate_samePlace (o : Obstacle) (q : Question) : o.SamePlace (o.evaluate q) := by
  unfold Obstacle.evaluate
  (repeat' split) <;> exact ⟨rfl, rfl⟩

theorem Obstacle.firstState_samePlace (o : Obstacle) (x : Nat) (dir : Direction) :
    o.SamePlace (o.firstState x dir) := by
  unfold Obstacle.firstState
  (repeat' split) <;> exact ⟨rfl, rfl⟩

theorem perm_insertObstacle (o : Obstacle) (os : List Obstacle) : (insertObstacle o os).Perm (o :: os) := by
  induction os with
  | nil => exact List.Perm.refl _
  | cons p ps ih =>
    unfold insertObstacle
    split
    · exact List.Perm.refl _
    · exact (ih.cons p).trans (List.Perm.swap o p ps)

/-- An entry of a new id inserted at its place keeps the table in order (R68). -/
theorem TableOrdered.insert {os : List Obstacle} (h : TableOrdered os) {o : Obstacle} (hroom : os.length < 24)
    (hid : ∀ p ∈ os, p.id ≠ o.id) : TableOrdered (insertObstacle o os) := by
  refine ⟨by simpa [(perm_insertObstacle o os).length_eq] using hroom, ?_⟩
  replace h := h.2
  clear hroom
  induction os with
  | nil => exact List.pairwise_singleton _ _
  | cons p ps ih =>
    obtain ⟨hp, hps⟩ := List.pairwise_cons.mp h
    have hop : p.id ≠ o.id := hid p (by simp)
    unfold insertObstacle
    split
    · next hb =>
      have hlt : o.precedes p := ⟨by simpa [Obstacle.before] using hb, Ne.symm hop⟩
      refine List.pairwise_cons.mpr ⟨fun q hq => ?_, h⟩
      rcases List.mem_cons.mp hq with rfl | hq
      · exact hlt
      · have hpq := (hp q hq).1
        have hol := hlt.1
        exact ⟨by omega, Ne.symm (hid q (by simp [hq]))⟩
    · next hb =>
      have hlt : p.precedes o := by
        refine ⟨?_, hop⟩
        simp [Obstacle.before] at hb
        omega
      refine List.pairwise_cons.mpr ⟨fun q hq => ?_, ih (fun q hq => hid q (by simp [hq])) hps⟩
      rcases List.mem_cons.mp ((perm_insertObstacle o ps).mem_iff.mp hq) with rfl | hq
      · exact hlt
      · exact hp q hq

/-! ## The truck log -/

theorem appendRecord_length {log : List TruckRecord} (h : log.length ≤ 32) (r : TruckRecord) :
    (appendRecord log r).length ≤ 32 := by
  unfold appendRecord
  split
  · simp
    omega
  · simp
    omega

section
variable (s : State)

@[simp] theorem evaluateBelt_log : (evaluateBelt s).conveyor.log = s.conveyor.log := (rfl)

@[simp] theorem checkHousing_log : (checkHousing s).conveyor.log = s.conveyor.log := by
  simp only [checkHousing]
  (repeat' split) <;> simp

@[simp] theorem truckChecks_log : (truckChecks s).conveyor.log = s.conveyor.log := by
  unfold truckChecks enterFull
  simp only
  (repeat' split) <;> simp

@[simp] theorem creditCarry_log (n : Nat) : (creditCarry s n).conveyor.log = s.conveyor.log := by
  have hchecks : ∀ t : State, t.conveyor.log = s.conveyor.log → (truckChecks t).conveyor.log = s.conveyor.log := by
    intro t ht
    simp [ht]
  unfold creditCarry
  dsimp only
  split
  · exact hchecks _ (by simp)
  · simp

@[simp] theorem stallCheck_log : (stallCheck s).conveyor.log = s.conveyor.log := by
  simp only [stallCheck]
  (repeat' split) <;> simp

@[simp] theorem takeCutReport_log (r : CutReport) : (takeCutReport s r).conveyor.log = s.conveyor.log := by
  have hchecks : ∀ t : State, t.conveyor.log = s.conveyor.log →
      (evaluateBelt (checkHousing t)).conveyor.log = s.conveyor.log := by
    intro t ht
    simp [ht]
  unfold takeCutReport
  dsimp only
  exact hchecks _ (by simp)

theorem presenceChange_log (active : Bool) (h : s.conveyor.log.length ≤ 32) :
    (presenceChange s active).conveyor.log.length ≤ 32 := by
  unfold presenceChange
  simp only
  split
  · exact h
  · exact h
  · exact h
  · exact h
  · split
    · simpa [endTruck] using appendRecord_length h _
    · exact h

end

/-! ## The tables -/

section
variable {s t : State}

theorem tablesInv_iff (s : State) : TablesInv s ↔ TableOrdered s.obstacles ∧ s.conveyor.log.length ≤ 32 :=
  ⟨fun ⟨hl, ho, hr⟩ => ⟨⟨hl, ho⟩, hr⟩, fun ⟨⟨hl, ho⟩, hr⟩ => ⟨hl, ho, hr⟩⟩

theorem TablesInv.congr (h : TablesInv s) (ho : t.obstacles = s.obstacles)
    (hl : t.conveyor.log = s.conveyor.log) : TablesInv t := by
  rw [tablesInv_iff] at h ⊢
  rwa [ho, hl]

theorem TablesInv.of_blocks (h : TablesInv s) (ho : t.obstacles = s.obstacles) (hc : t.conveyor = s.conveyor) :
    TablesInv t := h.congr ho (by rw [hc])

theorem TablesInv.of_obstacles (h : TablesInv s) (ho : TableOrdered t.obstacles) (hc : t.conveyor = s.conveyor) :
    TablesInv t := by
  rw [tablesInv_iff] at h ⊢
  exact ⟨ho, by rw [hc]; exact h.2⟩

/-- A station change moves the entries where they stand and takes some out (R73 to R76). -/
theorem TablesInv.stationChange (h : TablesInv s) (x : Nat) (dir : Direction) :
    TablesInv (obstacleStationChange s x dir) :=
  h.of_obstacles ((((tablesInv_iff s).mp h).1.map fun o => o.move_samePlace x _ dir).filter _) rfl

theorem obstacleRefusal_none {o : Obstacle} (h : obstacleRefusal s o = none) :
    s.obstacles.length < 24 ∧ ∀ p ∈ s.obstacles, p.id ≠ o.id := by
  unfold obstacleRefusal at h
  split at h
  · cases h
  · split at h
    · cases h
    · next hid =>
      split at h
      · cases h
      · exact ⟨by omega, by simpa using hid⟩

theorem TablesInv.setStation (h : TablesInv s) (x : BitVec 24) : TablesInv (takeSetStation x s).1 := by
  unfold takeSetStation
  split
  · exact h
  · simp only
    generalize hu : programStationChange _ _ _ = u
    have hs : TablesInv u := h.of_blocks (by simp [← hu]) (by simp [← hu])
    exact (hs.stationChange _ _).of_blocks rfl rfl

theorem TablesInv.addObstacle (h : TablesInv s) (w : ObstacleWire) : TablesInv (takeAddObstacle w s).1 := by
  unfold takeAddObstacle
  split
  · next mask _ _ =>
    simp only
    cases hr : obstacleRefusal s (obstacleOfWire w mask) with
    | some a => exact h
    | none =>
      obtain ⟨hroom, hid⟩ := obstacleRefusal_none hr
      have hplace := Obstacle.firstState_samePlace (obstacleOfWire w mask) s.travel.station s.travel.dir
      exact h.of_obstacles (((tablesInv_iff s).mp h).1.insert hroom fun p hp => by rw [hplace.1]; exact hid p hp) rfl
  · exact h
  · exact h

theorem TablesInv.removeObstacle (h : TablesInv s) (id : Byte) : TablesInv (takeRemoveObstacle id s).1 := by
  unfold takeRemoveObstacle
  split
  · exact h
  · split
    · exact h
    · exact h.of_obstacles (((tablesInv_iff s).mp h).1.filter _) rfl

theorem TablesInv.setBeltMode (h : TablesInv s) (mode : Byte) (p : BitVec 16) :
    TablesInv (takeSetBeltMode mode p s).1 := by
  refine h.congr ((takeSetBeltMode_writes s mode p).obstacles.resolve_left (by simp)) ?_
  unfold takeSetBeltMode
  split
  · rfl
  · split <;> simp [Conveyor.unstalled]

theorem TablesInv.truckDone (h : TablesInv s) : TablesInv (takeTruckDone s).1 := by
  refine h.congr ((takeTruckDone_writes s).obstacles.resolve_left (by simp)) ?_
  unfold takeTruckDone
  simp only
  split <;> simp [enterFull]

theorem TablesInv.takeTruckRecord (h : TablesInv s) : TablesInv (takeTakeTruckRecord s).1 := by
  unfold takeTakeTruckRecord
  split
  · exact h
  · next r rest hlog =>
    obtain ⟨ho, hl⟩ := (tablesInv_iff s).mp h
    rw [hlog, List.length_cons] at hl
    refine (tablesInv_iff _).mpr ⟨ho, ?_⟩
    simp only [State.setConveyor_conveyor]
    omega

theorem TablesInv.linkReset (h : TablesInv s) : TablesInv (linkResetActs s) := by
  refine h.of_obstacles ?_ ((linkResetActs_writes s).conveyor.resolve_left (by simp))
  have hnone : (linkResetActs s).obstacles = [] := by simp [linkResetActs]
  rw [hnone]
  exact ⟨Nat.zero_le _, List.Pairwise.nil⟩

theorem TablesInv.takeRequest (h : TablesInv s) (r : Request) : TablesInv (takeRequest r s).1 := by
  cases r with
  | setStation x => exact h.setStation x
  | addObstacle w => exact h.addObstacle w
  | removeObstacle id => exact h.removeObstacle id
  | setBeltMode mode p => exact h.setBeltMode mode p
  | setTruckTarget l =>
    show TablesInv (takeSetTruckTarget l s).1
    unfold takeSetTruckTarget
    exact h.congr (by simp) (by simp)
  | truckDone => exact h.truckDone
  | takeTruckRecord => exact h.takeTruckRecord
  | clearTotals =>
    show TablesInv (takeClearTotals s).1
    unfold takeClearTotals
    exact h.congr (by simp) (by simp)
  | linkReset => exact h.linkReset
  | writeConveyor g =>
    show TablesInv (takeWriteConveyor g s).1
    unfold takeWriteConveyor
    simp only
    split
    · exact h
    · exact h.congr rfl rfl
  | writeTruck g =>
    show TablesInv (takeWriteTruck g s).1
    unfold takeWriteTruck
    simp only
    split
    · exact h.congr rfl rfl
    · exact h.congr (by simp) (by simp)
  | _ =>
    exact h.of_blocks ((takeRequest_writes s _).obstacles.resolve_left (Block.not_mem rfl))
      ((takeRequest_writes s _).conveyor.resolve_left (Block.not_mem rfl))

theorem TablesInv.countPulse (h : TablesInv s) (dir : Direction) : TablesInv (countPulse s dir) := by
  have hmoved : ∀ {u : State}, TablesInv u → TablesInv (stationMoved u s.travel.station dir) := by
    intro u hu
    have hp : TablesInv (programStationChange u s.travel.station dir) := hu.of_blocks (by simp) (by simp)
    exact (hp.stationChange s.travel.station dir).of_blocks (by simp [stationMoved]) (by simp [stationMoved])
  unfold Machine.countPulse
  split
  · exact h
  · simp only
    split <;> split
    · exact h.of_blocks rfl rfl
    · exact h.of_blocks rfl rfl
    · exact hmoved (h.of_blocks rfl rfl)
    · exact hmoved (h.of_blocks rfl rfl)

/-- The entries after a control step's question (R79, R80). -/
theorem askEnvelope_obstacles (s : State) (q : Question) :
    (askEnvelope s q).1.obstacles = (s.obstacles.map fun o => o.settle q.x).map fun o => o.evaluate q := by
  simp [askEnvelope]

theorem controlStep_obstacles (s : State) (c : Completion) :
    (controlStep s c).obstacles =
      (s.obstacles.map fun o => o.settle c.station).map fun o => o.evaluate (stepQuestion s c) := by
  have hq : ∀ u : State, u.obstacles = s.obstacles →
      (askEnvelope u (stepQuestion s c)).1.obstacles =
        (s.obstacles.map fun o => o.settle c.station).map fun o => o.evaluate (stepQuestion s c) := by
    intro u hu
    rw [askEnvelope_obstacles, hu]
    rfl
  unfold controlStep
  simp only [reportCut_frame, settleRamp_frame, settleSides_frame, recordSide_frame, checkBreaches_frame]
  exact hq _ (by simp)

theorem TablesInv.endScan (h : TablesInv s) (f : ScanInFlight) (raw : Octet (BitVec 12)) :
    TablesInv (endScan s f raw) := by
  have hordered := ((tablesInv_iff s).mp h).1
  refine h.of_obstacles ?_ (by simp)
  unfold Machine.endScan
  simp only [leaveScanning_frame, controlStep_obstacles]
  have hsame : ∀ v : Scanner, ((processBuffer (fillBuffer s raw)).setScanner v).obstacles = s.obstacles := by simp
  rw [hsame]
  exact (hordered.map fun o => o.settle_samePlace _).map fun o => o.evaluate_samePlace _

theorem TablesInv.breachMark (h : TablesInv s) (id : Nat) (d : Side) (depth : Int) (bound : Nat) :
    TablesInv (takeBreachMark s id d depth bound) := by
  have hordered := ((tablesInv_iff s).mp h).1
  have hset : TableOrdered (setBreached s.obstacles id) := hordered.map fun o => by
    split <;> exact ⟨rfl, rfl⟩
  unfold takeBreachMark
  split
  · exact h
  · split
    · exact h
    · simp only
      split <;> exact h.of_obstacles (by simpa using hset) (by simp)

theorem TablesInv.takeChange (h : TablesInv s) (c : InputChange) : TablesInv (takeChange s c) := by
  have hpresence : TablesInv (presenceChange s c.active) :=
    (tablesInv_iff _).mpr ⟨by simpa using ((tablesInv_iff s).mp h).1, presenceChange_log s _ h.2.2⟩
  unfold Machine.takeChange
  cases c.input with
  | presence => exact hpresence
  | stopSense =>
    simp only
    split
    · exact h.congr (by simp) (by simp [stopSenseActive])
    · split
      · exact h.congr (by simp) (by simp [stopSenseRelease])
      · exact h
  | _ => exact h.of_blocks (by simp) (by simp)

theorem TablesInv.takeChanges (h : TablesInv s) (l : List InputChange) : TablesInv (takeChanges s l) := by
  have hfold : ∀ (l : List InputChange) {u}, TablesInv u → TablesInv (l.foldl Machine.takeChange u) := by
    intro l
    induction l with
    | nil => exact fun hu => hu
    | cons c l ih => exact fun hu => ih (hu.takeChange c)
  unfold Machine.takeChanges
  simp only
  split
  · exact hfold _ (TablesInv.of_blocks (hfold _ h) rfl rfl)
  · exact hfold _ (hfold _ h)

theorem takeMeasurement_log (s : State) (m : Nat) : (takeMeasurement s m).conveyor.log = s.conveyor.log := by
  unfold takeMeasurement
  simp only
  split <;> simp [supplyFall, supplyRise]

theorem execBeltInterval_log (s : State) :
    ∃ t, exec .beltInterval s = .next t ∧ t.conveyor.log = s.conveyor.log := by
  refine ⟨_, rfl, ?_⟩
  simp [startInterval]

theorem TablesInv.event {i : Instr} (hi : consoleRow i = false) (h : TablesInv s) (ht : exec i s = .next t) :
    TablesInv t := by
  cases i with
  | fullReset a b => cases ht; exact ⟨Nat.zero_le _, List.Pairwise.nil, Nat.zero_le _⟩
  | encoderEdge a b =>
    cases ht
    have hzero : TablesInv (s.setTravel (edged s.travel a b 0)) := h.of_blocks rfl rfl
    split
    · exact h
    · exact hzero
    · split
      · exact hzero.countPulse _
      · exact h.of_blocks rfl rfl
    · split
      · exact hzero.countPulse _
      · exact h.of_blocks rfl rfl
  | scanEnd raw =>
    cases ht
    split
    · exact h.endScan _ raw
    · exact h
  | breachMark id d depth bound => cases ht; exact TablesInv.breachMark (s := takeHanded s _) h id d depth bound
  | cutReport r => cases ht; exact h.congr (by simp) (by simp)
  | beltPulse => cases ht; exact h.congr rfl rfl
  | beltInterval =>
    obtain ⟨u, hu, hlog⟩ := execBeltInterval_log s
    cases hu.symm.trans ht
    exact h.congr ((event_writes hi ht).obstacles.resolve_left (Block.not_mem rfl)) hlog
  | truckSettleTimerExpiry =>
    cases ht
    split
    · exact h
    · exact h.congr (by simp) (by simp)
  | flashTimerExpiry =>
    cases ht
    split <;> exact h.congr rfl rfl
  | hornTimerExpiry => cases ht; exact h.congr rfl rfl
  | switchSample closed =>
    cases ht
    exact TablesInv.takeChanges (s := s.setInputs (sampleInputs s.inputs closed)) (h.of_blocks rfl rfl) _
  | supplyMeasurement millivolts =>
    cases ht
    split
    · exact h
    · exact h.congr ((takeMeasurement_writes s _).obstacles.resolve_left (Block.not_mem rfl))
        (takeMeasurement_log s _)
  | _ =>
    exact h.of_blocks ((event_writes hi ht).obstacles.resolve_left (Block.not_mem rfl))
      ((event_writes hi ht).conveyor.resolve_left (Block.not_mem rfl))

end

/-- Settles O9: entries are changed where they stand, taken out, or inserted at their place; a full log loses its
oldest record. -/
theorem tablesInvKept : Obligations.TablesInvKept := by
  unfold Obligations.TablesInvKept
  have hconsole : ConsoleProp TablesInv :=
    { link := fun _ h => h, notices := fun _ h => h, handed := fun _ h => h, freeCount := fun _ h => h,
      pending := fun _ h => h, request := fun r _ h => h.takeRequest r }
  exact hconsole.step fun hi h ht => h.event hi ht

end Sys2Proof.Machine
end

section
/-! The program list over a step: segments in order and apart, with room for the records still announced. -/

namespace Sys2Proof.Machine

open Sys2Proof

/-! ## The list -/

/-- Two segments in list order: the first ends where the second starts, or before, and they share no id (R42). -/
def Segment.precedes (g h : Segment) : Prop := g.endStation ≤ h.start ∧ g.id ≠ h.id

/-- Every segment has a length, and they stand in order (R42). -/
def SegmentsOrdered (segs : List Segment) : Prop :=
  (∀ g ∈ segs, 1 ≤ g.length) ∧ segs.Pairwise Segment.precedes

theorem SegmentsOrdered.nil : SegmentsOrdered [] := ⟨nofun, List.Pairwise.nil⟩

theorem SegmentsOrdered.tail {g : Segment} {segs : List Segment} (h : SegmentsOrdered (g :: segs)) :
    SegmentsOrdered segs :=
  ⟨fun k hk => h.1 k (List.mem_cons_of_mem g hk), (List.pairwise_cons.mp h.2).2⟩

/-- No segment of a list in order ends past the end of the last (R42). -/
theorem SegmentsOrdered.end_le_lastEnd {segs : List Segment} (h : SegmentsOrdered segs) {g : Segment}
    (hg : g ∈ segs) : g.endStation ≤ lastEnd segs := by
  rcases List.eq_nil_or_concat segs with rfl | ⟨before, last, rfl⟩
  · exact absurd hg (List.not_mem_nil)
  · simp only [lastEnd, List.concat_eq_append, List.getLast?_append, List.getLast?_singleton, Option.some_or]
    rw [List.concat_eq_append] at hg h
    rcases List.mem_append.mp hg with hb | hl
    · have hprec := (List.pairwise_append.mp h.2).2.2 g hb last (by simp)
      unfold Segment.precedes at hprec
      unfold Segment.endStation at hprec ⊢
      omega
    · rw [List.mem_singleton.mp hl]

/-- A segment of a new id that starts at or past the end of the last may follow (R51). -/
theorem SegmentsOrdered.append {segs : List Segment} (h : SegmentsOrdered segs) {g : Segment}
    (hlength : 1 ≤ g.length) (hid : ∀ k ∈ segs, k.id ≠ g.id) (hstart : lastEnd segs ≤ g.start) :
    SegmentsOrdered (segs ++ [g]) := by
  refine ⟨fun k hk => ?_, List.pairwise_append.mpr ⟨h.2, List.pairwise_singleton _ _, fun k hk j hj => ?_⟩⟩
  · rcases List.mem_append.mp hk with hk | hk
    · exact h.1 k hk
    · rwa [List.mem_singleton.mp hk]
  · rw [List.mem_singleton.mp hj]
    exact ⟨le_trans (h.end_le_lastEnd hk) hstart, hid k hk⟩

theorem Segment.cutAt_fields (g : Segment) (c : Nat) :
    (g.cutAt c).id = g.id ∧ (g.cutAt c).start = g.start ∧ (g.cutAt c).endStation ≤ max g.start g.endStation := by
  unfold Segment.cutAt Segment.endStation
  split
  · refine ⟨rfl, rfl, ?_⟩
    simp only
    omega
  · refine ⟨rfl, rfl, by omega⟩

/-- A list ended at c is in order too (R58). -/
theorem SegmentsOrdered.cut {segs : List Segment} (h : SegmentsOrdered segs) (c : Nat) :
    SegmentsOrdered (cutSegments segs c) := by
  unfold cutSegments
  refine ⟨fun k hk => ?_, List.pairwise_map.mpr ((h.2.filter _).imp fun {a b} hab => ?_)⟩
  · obtain ⟨g, hg, rfl⟩ := List.mem_map.mp hk
    obtain ⟨hmem, hlt⟩ := List.mem_filter.mp hg
    have hlen := h.1 g hmem
    have hstart : g.start < c := by simpa using hlt
    unfold Segment.cutAt
    split
    · simp only
      omega
    · exact hlen
  · obtain ⟨hida, -, henda⟩ := a.cutAt_fields c
    obtain ⟨hidb, hstartb, -⟩ := b.cutAt_fields c
    obtain ⟨hend, hid⟩ := hab
    refine ⟨?_, by rw [hida, hidb]; exact hid⟩
    rw [hstartb]
    unfold Segment.endStation at hend henda ⊢
    omega

/-! ## The invariant -/

section
variable {s t : State}

theorem programInv_iff (s : State) : ProgramInv s ↔
    SegmentsOrdered s.program.segments ∧ s.program.segments.length + announcedLeft s.program ≤ 104 ∧
      (∀ t, s.program.transfer = some t → t.accepted < t.announced ∧ t.announced ≤ 16) :=
  ⟨fun ⟨hl, ho, hn, ht⟩ => ⟨⟨hl, ho⟩, hn, ht⟩, fun ⟨⟨hl, ho⟩, hn, ht⟩ => ⟨hl, ho, hn, ht⟩⟩

/-- The invariant reads the segments and the transfer phase. -/
theorem ProgramInv.congr (h : ProgramInv s) (hs : t.program.segments = s.program.segments)
    (ht : t.program.transfer = s.program.transfer) : ProgramInv t := by
  unfold ProgramInv announcedLeft
  rw [hs, ht]
  exact h

theorem ProgramInv.of_program (h : ProgramInv s) (ht : t.program = s.program) : ProgramInv t :=
  h.congr (by rw [ht]) (by rw [ht])

/-- A list in order, no longer than it was, under the same phase. -/
theorem ProgramInv.shorter (h : ProgramInv s) (ho : SegmentsOrdered t.program.segments)
    (hl : t.program.segments.length ≤ s.program.segments.length)
    (ht : t.program.transfer = s.program.transfer) : ProgramInv t := by
  obtain ⟨-, hn, hphase⟩ := (programInv_iff s).mp h
  refine (programInv_iff t).mpr ⟨ho, ?_, by rw [ht]; exact hphase⟩
  unfold announcedLeft at hn ⊢
  rw [ht]
  omega

/-- With no phase open the list alone counts. -/
theorem programInv_closed (ho : SegmentsOrdered t.program.segments) (hl : t.program.segments.length ≤ 104)
    (ht : t.program.transfer = none) : ProgramInv t :=
  (programInv_iff t).mpr ⟨ho, by unfold announcedLeft; rw [ht]; exact hl, by rw [ht]; nofun⟩

theorem ProgramInv.closed (h : ProgramInv s) (hs : t.program.segments = s.program.segments)
    (ht : t.program.transfer = none) : ProgramInv t := by
  obtain ⟨ho, hn, -⟩ := (programInv_iff s).mp h
  exact programInv_closed (hs ▸ ho) (hs ▸ le_trans (Nat.le_add_right _ _) hn) ht

/-! ## The operations -/

theorem evaluateLowWater_program (s : State) :
    (evaluateLowWater s).program =
      { s.program with lowWater := lowWaterNow s && (s.program.transfer.isNone || s.program.lowWater) } := by
  unfold evaluateLowWater
  simp only
  split <;> simp

theorem ProgramInv.evaluateLowWater (h : ProgramInv s) : ProgramInv (evaluateLowWater s) :=
  h.congr (by rw [evaluateLowWater_program]) (by rw [evaluateLowWater_program])

theorem ProgramInv.dropHead (h : ProgramInv s) : ProgramInv (dropHead s) := by
  unfold Machine.dropHead
  cases hs : s.program.segments with
  | nil => exact h
  | cons g rest =>
    simp only
    split
    · obtain ⟨ho, -, -⟩ := (programInv_iff s).mp h
      rw [hs] at ho
      exact h.shorter ho.tail (by simp [hs]) rfl
    · exact h

theorem ProgramInv.stationChange (h : ProgramInv s) (x : Nat) (dir : Direction) :
    ProgramInv (programStationChange s x dir) := by
  unfold programStationChange
  split
  · exact h
  · cases dir with
    | forward =>
      have hdrop : ProgramInv (Machine.dropHead (noteDone s)) := (h.of_program (by simp)).dropHead
      exact ProgramInv.evaluateLowWater (hdrop.of_program (by simp))
    | reverse =>
      refine ProgramInv.evaluateLowWater ?_
      split <;> exact h.of_program (by simp)

theorem ProgramInv.loadSegments (h : ProgramInv s) (count : Byte) : ProgramInv (takeLoadSegments count s).1 := by
  obtain ⟨ho, hn, -⟩ := (programInv_iff s).mp h
  unfold takeLoadSegments freeSegments setTransfer
  simp only
  generalize hm : (if count.toNat = 0 then 16 else count.toNat) = announced
  have hpos : 0 < announced := by
    rw [← hm]
    split <;> omega
  split
  · exact h
  · next hmax =>
    split
    · exact h
    · refine (programInv_iff _).mpr ⟨ho, ?_, fun t ht => ?_⟩
      · simp only [State.setProgram_program, announcedLeft]
        omega
      · rw [State.setProgram_program] at ht
        cases ht
        exact ⟨hpos, Nat.not_lt.mp hmax⟩

/-- A record that passes the checks has a length, a new id, and starts at or past the last end (R51). -/
theorem segmentRefusal_none {g : Segment} (h : segmentRefusal s g = none) :
    1 ≤ g.length ∧ (∀ k ∈ s.program.segments, k.id ≠ g.id) ∧ lastEnd s.program.segments ≤ g.start := by
  unfold segmentRefusal at h
  split at h
  · cases h
  · next hfields =>
    have hlength := (firstBad_none _).mp hfields _ (List.mem_cons_of_mem _ (List.mem_cons_of_mem _ List.mem_cons_self))
    split at h
    · cases h
    · split at h
      · cases h
      · split at h
        · cases h
        · next hid =>
          split at h
          · cases h
          · next hstart => exact ⟨(of_decide_eq_true hlength).1, by simpa using hid, by omega⟩

theorem appendSegment_program (s : State) (g : Segment) (t : Option Transfer) :
    (appendSegment s g t).program.segments = s.program.segments ++ [g] ∧
      (appendSegment s g t).program.transfer = t := by
  unfold appendSegment
  rw [evaluateLowWater_program]
  simp

theorem ProgramInv.segmentRecord (h : ProgramInv s) (r : SegmentWire) : ProgramInv (takeSegmentRecord r s).1 := by
  obtain ⟨ho, hn, hphase⟩ := (programInv_iff s).mp h
  unfold takeSegmentRecord
  split
  · exact h
  · next t ht =>
    obtain ⟨hroom, hmax⟩ := hphase t ht
    simp only [announcedLeft, ht] at hn
    simp only
    cases hr : segmentRefusal s (SegmentWire.segment r) with
    | some a => exact ProgramInv.evaluateLowWater (h.closed rfl rfl)
    | none =>
      obtain ⟨hlength, hid, hstart⟩ := segmentRefusal_none hr
      simp only
      generalize hn' : (if decide (t.accepted + 1 < t.announced) = true then
        some { t with accepted := t.accepted + 1 } else none) = next
      obtain ⟨hsegs, hnext⟩ := appendSegment_program s (SegmentWire.segment r) next
      refine (programInv_iff _).mpr ⟨hsegs ▸ ho.append hlength hid hstart, ?_, fun u hu => ?_⟩
      · unfold announcedLeft
        rw [hsegs, hnext, ← hn', List.length_append, List.length_singleton]
        split
        · next hsome =>
          split at hsome
          · cases hsome
            simp only
            omega
          · cases hsome
        · omega
      · rw [hnext, ← hn'] at hu
        split at hu
        · next hmore =>
          cases hu
          exact ⟨of_decide_eq_true hmore, hmax⟩
        · cases hu

theorem ProgramInv.cutProgram (h : ProgramInv s) (c : BitVec 24) : ProgramInv (takeCutProgram c s).1 := by
  obtain ⟨ho, -, -⟩ := (programInv_iff s).mp h
  unfold takeCutProgram
  split
  · exact h
  · have hcut : ProgramInv (s.setProgram { s.program with segments := cutSegments s.program.segments c.toNat }) :=
      h.shorter (ho.cut _) (by simpa [cutSegments] using List.length_filter_le _ _) rfl
    exact ProgramInv.evaluateLowWater (hcut.of_program (by simp))

theorem ProgramInv.setStation (h : ProgramInv s) (x : BitVec 24) : ProgramInv (takeSetStation x s).1 := by
  unfold takeSetStation
  split
  · exact h
  · simp only
    generalize hu : s.setTravel _ = u
    have hs : ProgramInv u := h.of_program (by simp [← hu])
    exact (hs.stationChange _ _).of_program rfl

theorem ProgramInv.linkReset (s : State) : ProgramInv (linkResetActs s) := by
  have hempty : ∀ u : State, (programLinkReset u).program.segments = [] ∧
      (programLinkReset u).program.transfer = none := by
    intro u
    unfold programLinkReset
    simp only
    split <;> exact ⟨rfl, rfl⟩
  unfold linkResetActs
  refine programInv_closed ?_ ?_ ?_ <;> simp [hempty, SegmentsOrdered.nil]

theorem ProgramInv.takeRequest (h : ProgramInv s) (r : Request) : ProgramInv (takeRequest r s).1 := by
  cases r with
  | setStation x => exact h.setStation x
  | loadSegments n => exact h.loadSegments n
  | segmentRecord r => exact h.segmentRecord r
  | abortTransfer =>
    show ProgramInv (takeAbortTransfer s).1
    unfold takeAbortTransfer
    split
    · exact h
    · exact ProgramInv.evaluateLowWater (h.closed rfl rfl)
  | cutProgram c => exact h.cutProgram c
  | clearProgram =>
    show ProgramInv (takeClearProgram s).1
    unfold takeClearProgram
    split
    · exact h
    · exact h.shorter SegmentsOrdered.nil (Nat.zero_le _) rfl
  | linkReset => exact ProgramInv.linkReset s
  | writeControl g =>
    show ProgramInv (takeWriteControl g s).1
    unfold takeWriteControl
    split
    · exact h
    · exact ProgramInv.evaluateLowWater (h.of_program rfl)
  | _ => exact h.of_program ((takeRequest_writes s _).program.resolve_left (Block.not_mem rfl))

theorem ProgramInv.countPulse (h : ProgramInv s) (dir : Direction) : ProgramInv (countPulse s dir) := by
  have hmoved : ∀ {u : State}, ProgramInv u → ProgramInv (stationMoved u s.travel.station dir) := by
    intro u hu
    exact (hu.stationChange s.travel.station dir).of_program (by simp [stationMoved])
  unfold Machine.countPulse
  split
  · exact h
  · simp only
    split <;> split
    · exact h.of_program rfl
    · exact h.of_program rfl
    · exact hmoved (h.of_program rfl)
    · exact hmoved (h.of_program rfl)

theorem ProgramInv.event {i : Instr} (hi : consoleRow i = false) (h : ProgramInv s) (ht : exec i s = .next t) :
    ProgramInv t := by
  cases i with
  | fullReset a b => cases ht; exact programInv_closed SegmentsOrdered.nil (Nat.zero_le _) rfl
  | encoderEdge a b =>
    cases ht
    have hzero : ProgramInv (s.setTravel (edged s.travel a b 0)) := h.of_program rfl
    split
    · exact h
    · exact hzero
    · split
      · exact hzero.countPulse _
      · exact h.of_program rfl
    · split
      · exact hzero.countPulse _
      · exact h.of_program rfl
  | itemTimerExpiry =>
    simp only [exec, execItemTimerExpiry] at ht
    split at ht
    · cases ht; exact h
    · cases ht
      have hclosed : ProgramInv (setTransfer s none) := h.closed rfl rfl
      exact ProgramInv.evaluateLowWater (hclosed.of_program (by simp))
  | _ => exact h.of_program ((event_writes hi ht).program.resolve_left (Block.not_mem rfl))

end

/-- Settles O8: a segment enters behind the last one or leaves from either end, and the phase counts its
records. -/
theorem programInvKept : Obligations.ProgramInvKept := by
  unfold Obligations.ProgramInvKept
  have hconsole : ConsoleProp ProgramInv :=
    { link := fun _ h => h, notices := fun _ h => h, handed := fun _ h => h, freeCount := fun _ h => h,
      pending := fun _ h => h, request := fun r _ h => h.takeRequest r }
  exact hconsole.step fun hi h ht => h.event hi ht

end Sys2Proof.Machine
end

section
/-! The step, the resets, and the commands whose next state is written out whole: the travel and scanner timers, the
edges that count no pulse, parking and waking. -/

namespace Sys2Proof.Machine

open Sys2Proof

/-! ## The step and the reset -/

/-- Settles O1. -/
theorem stepRunsFrontCommand : Obligations.StepRunsFrontCommand := by
  unfold Obligations.StepRunsFrontCommand
  intro c rest s h
  unfold step
  rw [h]
  rfl

/-- Settles O2. -/
theorem emptyQueueStep : Obligations.EmptyQueueStep := by
  unfold Obligations.EmptyQueueStep
  refine ⟨fun e es s hp hh => ?_, fun s hp hh => ?_⟩
  · unfold step
    rw [hp, hh]
  · unfold step
    rw [hp, hh]

theorem legsInv_reset : LegsInv State.reset := by
  have hleg : LegInv false Leg.reset := ⟨.inl rfl, fun _ => ⟨rfl, rfl, rfl⟩, nofun⟩
  exact ⟨hleg, hleg⟩

theorem capInv_reset : CapInv State.reset :=
  ⟨Nat.zero_le _, fun _ _ _ => Nat.zero_le _, .inr ⟨.startup, rfl⟩, rfl⟩

theorem lineInv_reset : LineInv State.reset := by
  have hnone : ∀ c, State.reset.notices.pending.get c = none := fun c => PerClass.get_fill c none
  refine ⟨fun _ => ⟨rfl, hnone⟩, fun k t b h => ?_, fun c hc => absurd (hnone c) hc⟩
  change Receiver.hunt = .held k t b at h
  cases h

theorem travelInv_reset : TravelInv State.reset := by
  have hnone : ∀ p : Setup, none = some p → PulsesOk p := fun _ h => by cases h
  exact ⟨Nat.zero_le _, (by decide : (0 : Nat) < 1000), (by decide : (-3 : Int) ≤ 0), (by decide : (0 : Int) ≤ 3),
    (by decide : (100 : Nat) ≤ 1000), hnone, hnone⟩

/-- Settles O3, invariant by invariant. -/
theorem resetMeetsInvariants : Obligations.ResetMeetsInvariants :=
  ⟨legsInv_reset, capInv_reset, lineInv_reset, travelInv_reset,
    programInv_closed SegmentsOrdered.nil (Nat.zero_le _) rfl, Nat.zero_le _, List.Pairwise.nil, Nat.zero_le _⟩

/-- Settles O12, block by block. -/
theorem fullResetLeaves : Obligations.FullResetLeaves := by
  unfold Obligations.FullResetLeaves
  intro a b s
  refine ⟨_, rfl, rfl, ⟨rfl, rfl, rfl, rfl, rfl, rfl, rfl, rfl, fun c => Octet.get_fill c _⟩, ⟨rfl, rfl⟩,
    ⟨rfl, rfl, rfl, fun d => ?side⟩, ⟨rfl, rfl, fun d => ?leg⟩, rfl, fun r => ?hold, ⟨rfl, rfl⟩, fun k => ?input, rfl,
    fun c => ⟨PerClass.get_fill c _, PerClass.get_fill c _⟩, rfl, rfl, rfl, rfl, rfl⟩
  case side => cases d <;> rfl
  case leg => cases d <;> rfl
  case hold => cases r <;> rfl
  case input => cases k <;> rfl

/-- Settles O14. -/
theorem startupSettleExpiryEnds : Obligations.StartupSettleExpiryEnds := by
  unfold Obligations.StartupSettleExpiryEnds
  intro s hphase
  refine ⟨fun hnormal => ⟨withdrawReason (s.setStore { s.store with phase := .done }) .startup, ?_, rfl, rfl, rfl, rfl⟩,
    fun hother => ?_⟩
  · exact congrArg Host.Outcome.next ((if_pos hphase).trans (if_pos hnormal))
  · exact congrArg Host.Outcome.next ((if_pos hphase).trans (if_neg hother))

/-! ## Encoder edges -/

/-- An edge in the forward order counts up (R1). -/
theorem edgeStep_of_forward {sense : EncoderSense} {a b a' b' : Bool} (h : forwardEdge sense a b a' b') :
    edgeStep sense a b a' b' = .up := by
  cases sense with
  | normal =>
    simp only [forwardEdge, normalOrder, List.mem_cons, Prod.mk.injEq, List.not_mem_nil, or_false] at h
    rcases h with ⟨rfl, rfl, rfl, rfl⟩ | ⟨rfl, rfl, rfl, rfl⟩ | ⟨rfl, rfl, rfl, rfl⟩ | ⟨rfl, rfl, rfl, rfl⟩ <;> rfl
  | inverted =>
    simp only [forwardEdge, normalOrder, List.mem_cons, Prod.mk.injEq, List.not_mem_nil, or_false] at h
    rcases h with ⟨rfl, rfl, rfl, rfl⟩ | ⟨rfl, rfl, rfl, rfl⟩ | ⟨rfl, rfl, rfl, rfl⟩ | ⟨rfl, rfl, rfl, rfl⟩ <;> rfl

/-- An edge against the forward order counts down (R1). -/
theorem edgeStep_of_reverse {sense : EncoderSense} {a b a' b' : Bool} (h : forwardEdge sense a' b' a b) :
    edgeStep sense a b a' b' = .down := by
  cases sense with
  | normal =>
    simp only [forwardEdge, normalOrder, List.mem_cons, Prod.mk.injEq, List.not_mem_nil, or_false] at h
    rcases h with ⟨rfl, rfl, rfl, rfl⟩ | ⟨rfl, rfl, rfl, rfl⟩ | ⟨rfl, rfl, rfl, rfl⟩ | ⟨rfl, rfl, rfl, rfl⟩ <;> rfl
  | inverted =>
    simp only [forwardEdge, normalOrder, List.mem_cons, Prod.mk.injEq, List.not_mem_nil, or_false] at h
    rcases h with ⟨rfl, rfl, rfl, rfl⟩ | ⟨rfl, rfl, rfl, rfl⟩ | ⟨rfl, rfl, rfl, rfl⟩ | ⟨rfl, rfl, rfl, rfl⟩ <;> rfl

/-- A change of both levels skips a state (R2). -/
theorem edgeStep_of_both {sense : EncoderSense} {a b a' b' : Bool} (ha : a' ≠ a) (hb : b' ≠ b) :
    edgeStep sense a b a' b' = .skipped := by
  cases Bool.eq_not_of_ne ha
  cases Bool.eq_not_of_ne hb
  cases a <;> cases b <;> rfl

section
variable {a b : Bool} {s : State}

theorem exec_edge_up (h : edgeStep s.setup.geometry.sense s.travel.phaseA s.travel.phaseB a b = .up) :
    exec (.encoderEdge a b) s =
      .next (if 4 ≤ s.travel.edges + 1 then countPulse (s.setTravel (edged s.travel a b 0)) .forward
        else s.setTravel (edged s.travel a b (s.travel.edges + 1))) := by
  simp only [exec, execEncoderEdge, h]

theorem exec_edge_down (h : edgeStep s.setup.geometry.sense s.travel.phaseA s.travel.phaseB a b = .down) :
    exec (.encoderEdge a b) s =
      .next (if s.travel.edges - 1 ≤ -4 then countPulse (s.setTravel (edged s.travel a b 0)) .reverse
        else s.setTravel (edged s.travel a b (s.travel.edges - 1))) := by
  simp only [exec, execEncoderEdge, h]

/-- A pulse that would leave the range is discarded (R5). -/
theorem countPulse_discarded {dir : Direction}
    (h : pulseMove s.setup.geometry.pulses dir s.travel.station s.travel.frac = none) : countPulse s dir = s := by
  unfold countPulse
  rw [h]

end

/-- Settles O17. -/
theorem edgesWithoutPulse : Obligations.EdgesWithoutPulse := by
  unfold Obligations.EdgesWithoutPulse
  intro a b s
  refine ⟨fun h hn => ?up, fun h hn => ?down, fun ha hb => ?skipped, fun h hn hx hf => ?top, fun h hn hx hf => ?bottom⟩
  case up =>
    rw [exec_edge_up (edgeStep_of_forward h), if_neg (by omega)]
    rfl
  case down =>
    rw [exec_edge_down (edgeStep_of_reverse h), if_neg (by omega)]
    rfl
  case skipped =>
    simp only [exec, execEncoderEdge, edgeStep_of_both ha hb]
    rfl
  case top =>
    rw [exec_edge_up (edgeStep_of_forward h), if_pos (by omega), countPulse_discarded]
    · rfl
    · have hf' : ¬s.travel.frac + 100 < s.setup.geometry.pulses := by omega
      have hx' : maxStation ≤ s.travel.station := by omega
      exact (if_neg hf').trans (if_pos hx')
  case bottom =>
    rw [exec_edge_down (edgeStep_of_reverse h), if_pos (by omega), countPulse_discarded]
    · rfl
    · have hf' : ¬100 ≤ s.travel.frac := by omega
      exact (if_neg hf').trans (if_pos hx)

/-! ## The travel timers -/

theorem clamp_eq {lo hi : Int} (h : lo ≤ hi) (x : Int) : clamp lo hi x = max lo (min hi x) := by
  unfold clamp
  split
  · omega
  · split <;> omega

/-- Settles O18. -/
theorem travelTimers : Obligations.TravelTimers := by
  unfold Obligations.TravelTimers
  refine ⟨fun s => ⟨_, rfl, ?_⟩, fun s h => congrArg Host.Outcome.next (if_pos h), fun s n h => ?_⟩
  · rw [← clamp_eq (by decide)]
    rfl
  · simp only [exec, execStandstillTriggerTimerExpiry, h]
    rfl

/-! ## The scanner's timers -/

/-- Settles O21. -/
theorem scannerTimers : Obligations.ScannerTimers := by
  unfold Obligations.ScannerTimers
  intro s n
  refine ⟨fun h => ?armed, fun h hs => ?starts, fun h hs hline => ?dropped⟩
  case armed =>
    simp only [exec, execSettleTimerExpiry, h]
    rfl
  case starts =>
    simp only [exec, execIntervalTimerExpiry, takeIntervalExpiry, h, hs]
    rfl
  case dropped =>
    have hexec : exec .intervalTimerExpiry s =
        .next (dropTrigger (s.setScanner { s.scanner with intervalTimer := some (scanInterval s.setup) }) .interval) := by
      simp only [exec, execIntervalTimerExpiry, takeIntervalExpiry, h, hs]
    have hline' : ∀ v, LineInv (s.setScanner v) := fun v => hline.of_blocks rfl rfl rfl
    rw [hexec, dropTrigger_eq _ _ (hline' _), State.setScanner_scanner, hs]
    rfl

/-! ## Parking -/

section
variable {s : State}

theorem park_of_waiting (h : s.scanner.state = .settling ∨ s.scanner.state = .armed) :
    park s = enterParked s := by
  unfold park
  rcases h with h | h <;> rw [h]

theorem park_of_scanning (h : s.scanner.state = .scanning) :
    park s = s.setScanner { s.scanner with parkDue := true } := by
  unfold park
  rw [h]

end

/-- Settles O22. -/
theorem parkingAndWaking : Obligations.ParkingAndWaking := by
  unfold Obligations.ParkingAndWaking
  rintro s parked due rfl rfl
  refine ⟨fun n hn => ⟨fun hno hstate => ?parks, fun h => ?due⟩, fun hdue hstill hno hstate => ?leftAuto, fun h => ?keeps,
    fun hmode hpark hstate => ?starts, fun h => ?noTimer, ?wakes⟩
  case parks =>
    have hauto : anyAuto (s.setScanner { s.scanner with parkTimer := none }) = false :=
      (anyAuto_false_iff s).mpr hno
    simp only [exec, execParkTimerExpiry, hn, hauto, Bool.false_eq_true, if_false]
    exact congrArg Host.Outcome.next (park_of_waiting (s := s.setScanner _) hstate)
  case due =>
    simp only [exec, execParkTimerExpiry, hn]
    by_cases hno : NoAuto s
    · have hauto : anyAuto (s.setScanner { s.scanner with parkTimer := none }) = false :=
        (anyAuto_false_iff s).mpr hno
      have hscan := h.resolve_left (not_not.mpr hno)
      rw [if_neg (by rw [hauto]; decide)]
      exact congrArg Host.Outcome.next (park_of_scanning (s := s.setScanner _) hscan)
    · have hauto : anyAuto (s.setScanner { s.scanner with parkTimer := none }) = true :=
        Bool.eq_true_of_not_eq_false ((anyAuto_false_iff s).not.mpr hno)
      rw [if_pos hauto]
      rfl
  case leftAuto =>
    have hcond : s.scanner.parkDue = true ∧ s.travel.standstill = true ∧ anyAuto s = false :=
      ⟨hdue, hstill, (anyAuto_false_iff s).mpr hno⟩
    refine congrArg Host.Outcome.next ((if_pos hcond).trans ?_)
    exact park_of_waiting (s := takeHanded s _) hstate
  case keeps =>
    have hcond : ¬(s.scanner.parkDue = true ∧ s.travel.standstill = true ∧ anyAuto s = false) := by
      rintro ⟨hdue, hstill, -⟩
      rcases h with h | h
      · exact Bool.false_ne_true (h.symm.trans hdue)
      · exact Bool.false_ne_true (h.symm.trans hstill)
    exact congrArg Host.Outcome.next (if_neg hcond)
  case starts =>
    have hstart : parkStart s.setup.scan = some (s.setup.scan.park * 1000) := if_pos ⟨hmode, hpark⟩
    have hcond : parkable s.scanner.state = true ∧ (parkStart s.setup.scan).isSome = true := by
      refine ⟨?_, by rw [hstart]; rfl⟩
      rcases hstate with h | h | h <;> rw [h] <;> rfl
    refine congrArg Host.Outcome.next ((if_pos hcond).trans ?_)
    simp only [takeHanded_frame, State.setup] at hstart ⊢
    rw [hstart]
    rfl
  case noTimer =>
    have hcond : ¬(parkable s.scanner.state = true ∧ (parkStart s.setup.scan).isSome = true) := by
      rintro ⟨hstate, hstart⟩
      have hmode : s.setup.scan.mode = .distance ∧ 0 < s.setup.scan.park := by
        unfold parkStart at hstart
        split at hstart
        · assumption
        · cases hstart
      rcases h with h | h | h | h | h
      · rw [h] at hmode
        cases hmode.1
      · omega
      all_goals
        rw [h] at hstate
        cases hstate
    exact congrArg Host.Outcome.next (if_neg hcond)
  case wakes =>
    simp only [exec, execStandstillEndEvent, takeStandstillEnd]
    by_cases h : s.scanner.state = .parked
    · have h' : (takeHanded s .standstillEndEvent).scanner.state = .parked := h
      simp only [h, h', if_true]
      rfl
    · have h' : (takeHanded s .standstillEndEvent).scanner.state ≠ .parked := h
      simp only [h, h', if_false]
      rfl

/-! ## The conveyor's pulses and timers -/

/-- Settles O45. -/
theorem conveyorPulsesAndTimers : Obligations.ConveyorPulsesAndTimers := by
  unfold Obligations.ConveyorPulsesAndTimers
  exact fun s => ⟨rfl, fun h => congrArg Host.Outcome.next (if_pos h), rfl⟩

end Sys2Proof.Machine
end

section
/-! What each operation posts: one list of occurrences, from which the rest of the line and the Notice Unit
follows. -/

namespace Sys2Proof.Machine

open Sys2Proof

section
variable {s t u : State}

/-- An occurrence posted from a state whose line is that of s. -/
theorem Posted.post_from (c : NoticeClass) (d : NoticeDetail) (hl : u.link = s.link) (hn : u.notices = s.notices)
    (hv : u.setup.levels = s.setup.levels) : Posted s (Machine.post u c d) [⟨c, u.travel.station, d⟩] :=
  (Posted.post u c d).before hl hn hv

/-- An event handed leaves what was posted. -/
theorem Posted.hand {l : List Occurrence} (h : Posted s t l) (e : Instr) : Posted s (Machine.hand t e) l :=
  h.after rfl rfl rfl

/-- A conveyor state written leaves the line. -/
theorem Posted.setConveyor (s : State) (c : Conveyor) : Posted s (s.setConveyor c) [] :=
  Posted.nothing rfl rfl rfl

/-! ## The program -/

/-- The low-water condition begins to hold (R49). -/
def lowWaterBegins (s : State) : Bool :=
  (lowWaterNow s && (s.program.transfer.isNone || s.program.lowWater)) && !s.program.lowWater

def lowWaterPosts (s : State) : List Occurrence :=
  if lowWaterBegins s then
    [⟨.programLow, s.travel.station,
      .programLow (remainingCount s.program.segments s.travel.station) s.setup.control.lowWater⟩]
  else []

theorem evaluateLowWater_posted (s : State) : Posted s (evaluateLowWater s) (lowWaterPosts s) := by
  unfold evaluateLowWater lowWaterPosts lowWaterBegins
  simp only
  split
  · exact Posted.post_from _ _ rfl rfl rfl
  · exact Posted.nothing rfl rfl rfl

/-- What a position that was `old` posts (R47, R48). -/
def positionPosts (s : State) (old : Position) : List Occurrence :=
  match position s with
  | .gap g next => if old.code = 3 then [] else [⟨.programGap, s.travel.station, .programGap g.id next⟩]
  | .beyond g =>
    if old.code = 4 then [] else [⟨.programEnd, s.travel.station, .programEnd g.id g.endStation g.endStop⟩]
  | _ => []

theorem notePosition_posted (s : State) (old : Position) : Posted s (notePosition s old) (positionPosts s old) := by
  unfold notePosition positionPosts
  cases position s with
  | gap g next =>
    simp only
    split
    · exact Posted.refl s
    · exact Posted.post s _ _
  | beyond g =>
    simp only
    split
    · exact Posted.refl s
    · split
      · exact (Posted.post s _ _).after rfl rfl rfl
      · exact Posted.post s _ _
  | _ => exact Posted.refl s

/-- What the segment that becomes behind posts (R45). -/
def donePosts (s : State) : List Occurrence :=
  ((s.program.segments.find? fun g => g.endStation == s.travel.station).map fun g =>
    (⟨.segmentDone, s.travel.station, .segmentDone g.id⟩ : Occurrence)).toList

theorem noteDone_posted (s : State) : Posted s (noteDone s) (donePosts s) := by
  unfold noteDone donePosts
  cases s.program.segments.find? fun g => g.endStation == s.travel.station with
  | none => exact Posted.refl s
  | some g => exact Posted.post s _ _

theorem dropHead_quiet (s : State) : Posted s (dropHead s) [] :=
  Posted.nothing (by simp) (by simp) (by simp [State.setup])

/-- A forward station change of a list that is not empty posts the segment done, the new position, and low
water (R45 to R49). -/
theorem programStationChange_forward_posted (h : s.program.segments ≠ []) (x : Nat) :
    Posted s (programStationChange s x .forward)
      (donePosts s ++ positionPosts (dropHead (noteDone s)) (positionIn s.program.segments x) ++
        lowWaterPosts (notePosition (dropHead (noteDone s)) (positionIn s.program.segments x))) := by
  unfold programStationChange
  cases hs : s.program.segments with
  | nil => exact absurd hs h
  | cons g rest =>
    simp only
    have hdone := (noteDone_posted s).trans (dropHead_quiet _)
    rw [List.append_nil] at hdone
    exact (hdone.trans (notePosition_posted _ _)).trans (evaluateLowWater_posted _)

/-- A reverse step hands target lost on leaving the list over its start (R46). -/
def leaveOverStart (s : State) (old : Position) : State :=
  if position s = .before ∧ old ≠ .before then hand (notePosition s old) .targetLost else notePosition s old

theorem leaveOverStart_posted (s : State) (old : Position) :
    Posted s (leaveOverStart s old) (positionPosts s old) := by
  unfold leaveOverStart
  split
  · exact (notePosition_posted s old).after rfl rfl rfl
  · exact notePosition_posted s old

theorem programStationChange_reverse_eq {g : Segment} {rest : List Segment} (h : s.program.segments = g :: rest)
    (x : Nat) : programStationChange s x .reverse =
      evaluateLowWater (leaveOverStart s (positionIn s.program.segments x)) := by
  unfold programStationChange
  rw [h]
  rfl

theorem programStationChange_reverse_posted (h : s.program.segments ≠ []) (x : Nat) :
    Posted s (programStationChange s x .reverse)
      (positionPosts s (positionIn s.program.segments x) ++
        lowWaterPosts (leaveOverStart s (positionIn s.program.segments x))) := by
  obtain ⟨g, rest, hs⟩ := List.exists_cons_of_ne_nil h
  rw [programStationChange_reverse_eq hs]
  exact (leaveOverStart_posted s _).trans (evaluateLowWater_posted _)

theorem programStationChange_empty (h : s.program.segments = []) (x : Nat) (dir : Direction) :
    programStationChange s x dir = s := by
  unfold programStationChange
  rw [h]

theorem programStationChange_posted (s : State) (x : Nat) (dir : Direction) :
    ∃ l, Posted s (programStationChange s x dir) l := by
  by_cases h : s.program.segments = []
  · rw [programStationChange_empty h]
    exact ⟨[], Posted.refl s⟩
  · cases dir with
    | forward => exact ⟨_, programStationChange_forward_posted h x⟩
    | reverse => exact ⟨_, programStationChange_reverse_posted h x⟩

theorem appendSegment_posted (s : State) (g : Segment) (t : Option Transfer) :
    ∃ l, Posted s (appendSegment s g t) l := by
  unfold appendSegment
  generalize hu : hand (s.setProgram { s.program with segments := s.program.segments ++ [g], transfer := t })
    .programEndAhead = u
  have hquiet : Posted s u [] := hu ▸ Posted.nothing rfl rfl rfl
  exact ⟨_, (hquiet.trans (notePosition_posted u _)).trans (evaluateLowWater_posted _)⟩

/-! ## The conveyor -/

/-- HOUSING begins to be held (R140). -/
def housingRises (s : State) : Bool :=
  decide (s.setup.conveyor.housingLimit * 1000000 < s.conveyor.housing) && !s.conveyor.housingHeld

def housingPosts (s : State) : List Occurrence :=
  if housingRises s then
    [⟨.housingHigh, s.travel.station,
      .housingHigh (housingLitres s.conveyor.housing) s.setup.conveyor.housingLimit⟩]
  else []

theorem checkHousing_posted (s : State) : Posted s (checkHousing s) (housingPosts s) := by
  unfold checkHousing housingPosts housingRises
  simp only
  by_cases hrise : s.setup.conveyor.housingLimit * 1000000 < s.conveyor.housing ∧ (!s.conveyor.housingHeld) = true
  · have hb : (decide (s.setup.conveyor.housingLimit * 1000000 < s.conveyor.housing) &&
        !s.conveyor.housingHeld) = true := by simpa using hrise
    rw [if_pos hrise, if_pos hb]
    exact ((Posted.setConveyor s _).trans (Posted.post _ _ _)).hand _
  · have hb : (decide (s.setup.conveyor.housingLimit * 1000000 < s.conveyor.housing) &&
        !s.conveyor.housingHeld) ≠ true := by simpa using hrise
    rw [if_neg hrise, if_neg hb]
    split
    · exact (Posted.setConveyor s _).hand _
    · exact Posted.refl s

/-- The belt is found stalled (R137). -/
def stallFound (s : State) : Bool := stallMet s.conveyor && decide (20 ≤ s.conveyor.stallRun + 1)

def stallPosts (s : State) : List Occurrence :=
  if stallFound s then
    [⟨.beltStall, s.travel.station, .beltStall s.conveyor.command s.conveyor.measured⟩]
  else []

theorem stallCheck_posted (s : State) : Posted s (stallCheck s) (stallPosts s) := by
  unfold stallCheck stallPosts stallFound
  simp only
  cases hmet : stallMet s.conveyor with
  | false => exact Posted.nothing rfl rfl rfl
  | true =>
    by_cases hrun : 20 ≤ s.conveyor.stallRun + 1
    · simp only [hrun, if_true, decide_true, Bool.and_self]
      exact Posted.post_from _ _ rfl rfl rfl
    · simp only [hrun, if_false, decide_false, Bool.and_false, Bool.false_eq_true, if_true]
      exact Posted.nothing rfl rfl rfl

theorem creditCarry_quiet (s : State) (n : Nat) : Posted s (creditCarry s n) [] :=
  Posted.nothing (by simp) (by simp) (by simp [State.setup])

theorem evaluateBelt_quiet (s : State) : Posted s (evaluateBelt s) [] :=
  Posted.nothing (by simp) (by simp) (by simp [State.setup])

theorem post_evaluateBelt_posted (s : State) (k : Conveyor) (c : NoticeClass) (d : NoticeDetail) :
    Posted s (evaluateBelt (post (s.setConveyor k) c d)) [⟨c, s.travel.station, d⟩] :=
  ((Posted.setConveyor s k).trans (Posted.post (s.setConveyor k) c d)).trans (evaluateBelt_quiet _)

/-- The reason a current truck is ended with (R149). -/
def truckEndReason (s : State) (k : Truck) : EndReason :=
  if s.conveyor.truck = .full then k.endReason.getD .full else .early

theorem endTruck_posted (s : State) (k : Truck) : Posted s (endTruck s k)
    [⟨.truckComplete, s.travel.station, .truckComplete k.number (truckEndReason s k)
      (truckRecord k s.travel.station (truckEndReason s k) false).litres⟩] :=
  post_evaluateBelt_posted s _ _ _

theorem presenceChange_posted (s : State) (active : Bool) : ∃ l, Posted s (presenceChange s active) l := by
  unfold presenceChange
  simp only
  split
  · exact ⟨[], Posted.nothing rfl rfl rfl⟩
  · exact ⟨[], Posted.refl s⟩
  · exact ⟨[], Posted.refl s⟩
  · exact ⟨[], Posted.nothing rfl rfl rfl⟩
  · split
    · exact ⟨_, endTruck_posted s _⟩
    · exact ⟨[], Posted.refl s⟩

/-! ## The inputs and the supply -/

theorem limitChange_posted (s : State) (d : Side) (w : LimitSwitch) (active : Bool) :
    Posted s (limitChange s d w active)
      (if active then
        [⟨.legLimit, s.travel.station, .legLimit d w (legOf s d).mode (towardLimit w (legOf s d).output)⟩]
      else []) := by
  unfold limitChange
  simp only
  split
  · exact Posted.post_from _ _ rfl rfl rfl
  · exact Posted.nothing rfl rfl rfl

theorem stopSenseActive_posted (s : State) :
    Posted s (stopSenseActive s) [⟨.stopSense, s.travel.station, .stopSense⟩] := by
  have hx : ∀ v, (legsStopSense s).travel.station = v → Posted s (stopSenseActive s) [⟨.stopSense, v, .stopSense⟩] :=
    fun v hv => hv ▸ Posted.post_from _ _ (by simp) (by simp) (by simp [State.setup])
  exact hx _ (by simp)

theorem stopSenseRelease_quiet (s : State) : Posted s (stopSenseRelease s) [] :=
  Posted.nothing (by simp) (by simp) (by simp [State.setup])

theorem takeChange_posted (s : State) (c : InputChange) : ∃ l, Posted s (takeChange s c) l := by
  unfold takeChange
  cases c.input with
  | presence => exact presenceChange_posted s _
  | leftUpper => exact ⟨_, limitChange_posted s _ _ _⟩
  | leftLower => exact ⟨_, limitChange_posted s _ _ _⟩
  | rightUpper => exact ⟨_, limitChange_posted s _ _ _⟩
  | rightLower => exact ⟨_, limitChange_posted s _ _ _⟩
  | stopSense =>
    simp only
    split
    · exact ⟨_, stopSenseActive_posted s⟩
    · split
      · exact ⟨_, stopSenseRelease_quiet s⟩
      · exact ⟨[], Posted.refl s⟩

/-- Operations that post, one after another, post. -/
theorem Posted.foldl {α : Type} {f : State → α → State} (hf : ∀ s a, ∃ l, Posted s (f s a) l) (xs : List α) (s : State) :
    ∃ l, Posted s (xs.foldl f s) l := by
  induction xs generalizing s with
  | nil => exact ⟨[], Posted.refl s⟩
  | cons a xs ih =>
    obtain ⟨l, hl⟩ := hf s a
    obtain ⟨m, hm⟩ := ih (f s a)
    exact ⟨l ++ m, hl.trans hm⟩

theorem takeChanges_posted (s : State) (cs : List InputChange) : ∃ l, Posted s (takeChanges s cs) l := by
  obtain ⟨l, hl⟩ := Posted.foldl takeChange_posted (cs.filter fun c => !c.posts) s
  unfold takeChanges
  simp only
  split
  · obtain ⟨m, hm⟩ := Posted.foldl takeChange_posted
      (permute (Config.switchOrder s.freeCount) (cs.filter InputChange.posts))
      (State.setFreeCount (List.foldl takeChange s (List.filter (fun c => !c.posts) cs)) (s.freeCount + 1))
    exact ⟨_, hl.trans (hm.before rfl rfl rfl)⟩
  · obtain ⟨m, hm⟩ := Posted.foldl takeChange_posted (cs.filter InputChange.posts)
      (List.foldl takeChange s (List.filter (fun c => !c.posts) cs))
    exact ⟨_, hl.trans hm⟩

theorem supplyFall_posted (s : State) (m : Nat) :
    Posted s (supplyFall s m) [⟨.supplyLow, s.travel.station, .supplyLow m⟩] := by
  have hx : ∀ v, (legsSupplyFall s).travel.station = v →
      Posted s (supplyFall s m) [⟨.supplyLow, v, .supplyLow m⟩] :=
    fun v hv => hv ▸ Posted.post_from _ _ (by simp) (by simp) (by simp [State.setup])
  exact hx _ (by simp)

theorem takeMeasurement_posted (s : State) (m : Nat) : ∃ l, Posted s (takeMeasurement s m) l := by
  unfold takeMeasurement
  simp only
  split
  · exact ⟨_, (supplyFall_posted _ m).before rfl rfl rfl⟩
  · exact ⟨_, (supplyFall_posted _ m).before rfl rfl rfl⟩
  · exact ⟨[], Posted.nothing (by simp) (by simp) (by simp [State.setup])⟩
  · exact ⟨[], Posted.nothing (by simp) (by simp) (by simp [State.setup])⟩
  · exact ⟨[], Posted.nothing rfl rfl rfl⟩

/-! ## The scanner's samples -/

/-- What a sample posts (R32, R36). -/
def samplePosts (s : State) (c : Channel) (r : Nat) : List Occurrence :=
  match (processSample (s.setup.channels.get c) (s.scanner.records.get c) r).2 with
  | .quiet => []
  | .entersFault => [⟨.channelFault, s.travel.station, .channelFault c r⟩]
  | .recovers => [⟨.channelRecovered, s.travel.station, .channelRecovered c⟩]

theorem processChannel_posted (s : State) (c : Channel) (r : Nat) :
    Posted s (processChannel s c r) (samplePosts s c r) := by
  unfold processChannel samplePosts
  simp only
  cases (processSample (s.setup.channels.get c) (s.scanner.records.get c) r).2 with
  | quiet => exact Posted.nothing rfl rfl rfl
  | entersFault => exact Posted.post_from _ _ rfl rfl rfl
  | recovers => exact Posted.post_from _ _ rfl rfl rfl

theorem processBuffer_posted (s : State) : ∃ l, Posted s (processBuffer s) l := by
  obtain ⟨l, hl⟩ := Posted.foldl (f := fun s (q : Channel × BitVec 12) => processChannel s q.1 q.2.toNat)
    (fun s q => ⟨_, processChannel_posted s q.1 q.2.toNat⟩) (s.setup.scan.list.zip s.scanner.samples) s
  exact ⟨l, hl.after rfl rfl rfl⟩

theorem dropTrigger_posted (s : State) (k : TriggerKind) :
    Posted s (dropTrigger s k) [⟨.scanOverrun, s.travel.station, .scanOverrun k s.scanner.state⟩] :=
  Posted.post_from _ _ rfl rfl rfl

/-! ## The control step -/

theorem noteSwitch_posted (s : State) (x : Nat) (d : Side) (used : Option Channel) :
    ∃ l, Posted s (noteSwitch s x d used) l := by
  unfold noteSwitch
  split
  · split
    · exact ⟨[], Posted.refl s⟩
    · exact ⟨_, Posted.postAt s _ _ _⟩
  · exact ⟨[], Posted.refl s⟩

theorem noteSwitches_posted (s : State) (c : Completion) : ∃ l, Posted s (noteSwitches s c) l := by
  obtain ⟨l, hl⟩ := noteSwitch_posted s c.station s.setup.geometry.refSide (fuseReference s.setup.geometry c).used
  obtain ⟨m, hm⟩ := noteSwitch_posted (noteSwitch s c.station s.setup.geometry.refSide
    (fuseReference s.setup.geometry c).used) c.station s.setup.geometry.refSide.other (fuseFar s.setup.geometry c).used
  exact ⟨_, hl.trans hm⟩

/-- What the passages judged unsampled post, in table order (R80). -/
def unsampledPosts (s : State) (x : Nat) (os : List Obstacle) : List Occurrence :=
  (os.filter fun o => (o.markSampled x).judgedUnsampled).map fun o =>
    ⟨.obstacleUnsampled, s.travel.station, .obstacleUnsampled o.id o.start o.endStation x⟩

theorem postUnsampled_posted (s : State) (x : Nat) (os : List Obstacle) :
    Posted s (postUnsampled s x os) (unsampledPosts s x os) := by
  unfold postUnsampled unsampledPosts
  induction os generalizing s with
  | nil => exact Posted.refl s
  | cons o os ih =>
    rw [List.foldl_cons]
    cases hj : (o.markSampled x).judgedUnsampled with
    | false => simpa [hj] using ih s
    | true =>
      simp only [hj, if_true, List.filter_cons_of_pos, List.map_cons]
      have hpost := (Posted.post s .obstacleUnsampled (.obstacleUnsampled o.id o.start o.endStation x)).trans (ih _)
      simpa using hpost

theorem askEnvelope_posted (s : State) (q : Question) :
    Posted s (askEnvelope s q).1 (unsampledPosts s q.x s.obstacles) :=
  (postUnsampled_posted (s.setObstacles _) q.x s.obstacles).before rfl rfl rfl

theorem checkBreaches_quiet (s : State) (items : List BreachItem) (l r : Option Int) :
    Posted s (checkBreaches s items l r) [] :=
  Posted.nothing (by simp) (by simp) (by simp [State.setup])

/-- What a lost reference posts (R102). -/
def lossPosts (x : Nat) (d : Side) (w : SideWork) (cause : LostCause) : List Occurrence :=
  if w.auto = true ∧ w.fused.depth = none then [⟨.referenceLost, x, .referenceLost d cause⟩] else []

theorem noteLoss_posted (s : State) (x : Nat) (d : Side) (w : SideWork) (cause : LostCause) :
    Posted s (noteLoss s x d w cause) (lossPosts x d w cause) := by
  unfold noteLoss lossPosts
  cases w.auto with
  | false => exact Posted.refl s
  | true =>
    cases w.fused.depth with
    | none =>
      simp only [if_true]
      have hlost := (Posted.postAt (hand (setRefHold s d true) (.referenceLostRequest d)) .referenceLost x
        (.referenceLost d cause)).before (s := s) rfl rfl rfl
      split
      · exact hlost
      · exact hlost.after rfl rfl rfl
    | some m =>
      simp only [if_true]
      split
      · exact Posted.nothing rfl rfl rfl
      · exact Posted.refl s

/-- What the step posts as RAMP is added (R107). -/
def rampPosts (s : State) (x : Nat) (q : Sides (Option Nat)) : List Occurrence :=
  match stepCap s.setup q with
  | some cap => if s.grade.ramp.isSome then [] else [⟨.rampLimited, x, .rampLimited q cap⟩]
  | none => []

theorem settleRamp_posted (s : State) (x : Nat) (q : Sides (Option Nat)) :
    Posted s (settleRamp s x q) (rampPosts s x q) := by
  unfold settleRamp rampPosts
  cases stepCap s.setup q with
  | some cap =>
    simp only
    split
    · exact Posted.nothing rfl rfl rfl
    · exact (Posted.postAt _ _ x _).before rfl rfl rfl
  | none =>
    simp only
    split
    · exact Posted.nothing rfl rfl rfl
    · exact Posted.refl s

theorem settleSides_posted (s : State) (c : Completion) (w : Sides SideWork) :
    Posted s (settleSides s c w)
      (lossPosts c.station s.setup.geometry.refSide (w.get s.setup.geometry.refSide)
          (lostCause s.setup.geometry c s.setup.geometry.refSide) ++
        lossPosts c.station s.setup.geometry.refSide.other (w.get s.setup.geometry.refSide.other)
          (lostCause s.setup.geometry c s.setup.geometry.refSide.other)) := by
  unfold settleSides
  simp only
  exact ((noteLoss_posted s c.station s.setup.geometry.refSide _ _).trans (noteLoss_posted _ _ _ _ _)).after
    (by simp) (by simp) (by simp [State.setup])

theorem recordSide_quiet (s : State) (d : Side) (w : SideWork) : Posted s (recordSide s d w) [] :=
  Posted.nothing (by simp) (by simp) (by simp [State.setup])

theorem reportCut_quiet (s : State) (c : Completion) (l r : Option Int) : Posted s (reportCut s c l r) [] :=
  Posted.nothing (by simp) (by simp) (by simp [State.setup])

theorem controlStep_posted (s : State) (c : Completion) : ∃ l, Posted s (controlStep s c) l := by
  obtain ⟨l, hl⟩ := noteSwitches_posted s c
  have hq := hl.trans (askEnvelope_posted (noteSwitches s c) (stepQuestion s c))
  unfold controlStep
  simp only
  generalize askEnvelope (noteSwitches s c) (stepQuestion s c) = q at hq ⊢
  have hb := hq.trans (checkBreaches_quiet q.1 q.2.inside (sideWork s c q.2 .left).fused.depth
    (sideWork s c q.2 .right).fused.depth)
  generalize checkBreaches q.1 q.2.inside (sideWork s c q.2 .left).fused.depth
    (sideWork s c q.2 .right).fused.depth = b at hb ⊢
  have hr := ((hb.trans (recordSide_quiet b .left (sideWork s c q.2 .left))).trans
    (recordSide_quiet _ .right (sideWork s c q.2 .right)))
  exact ⟨_, (((hr.trans (settleSides_posted _ _ _)).trans (settleRamp_posted _ _ _)).trans
    (reportCut_quiet _ _ _ _))⟩

end

end Sys2Proof.Machine
end

section
/-! The line never waits: after every step an IDLE line has neither a reply nor a notice waiting, and a HELD
request stands behind a full slot. -/

namespace Sys2Proof.Machine

open Sys2Proof

/-! ## The most urgent notice -/

section
variable {s t : State}

/-- The class has a notice that the transmitter may take (R173). -/
def Offered (s : State) (c : NoticeClass) : Prop :=
  (s.notices.pending.get c).isSome ∧ s.setup.levels.get c < 3

/-- c goes on the line before k: a lower level, or a lower class number at the same level (R173). -/
def Precedes (s : State) (c k : NoticeClass) : Prop :=
  s.setup.levels.get c < s.setup.levels.get k ∨
    s.setup.levels.get c = s.setup.levels.get k ∧ classNumber c < classNumber k

/-- c is the class that goes first among those of the list. -/
structure FirstOf (s : State) (l : List NoticeClass) (c : NoticeClass) : Prop where
  listed : c ∈ l
  offered : Offered s c
  precedes : ∀ k ∈ l, k ≠ c → Offered s k → Precedes s c k

/-- What the search has found over the classes it has run through. -/
def Found (s : State) (l : List NoticeClass) : Option NoticeClass → Prop
  | none => ∀ k ∈ l, ¬Offered s k
  | some c => FirstOf s l c

theorem betterNotice_of_not_offered {best : Option NoticeClass} {c : NoticeClass} (h : ¬Offered s c) :
    betterNotice s best c = best := by
  unfold Offered at h
  unfold betterNotice levelOf
  rw [if_neg (by simpa using h)]

theorem betterNotice_none {c : NoticeClass} (h : Offered s c) : betterNotice s none c = some c := by
  obtain ⟨hp, hl⟩ := h
  simp [betterNotice, levelOf, hp, hl]

theorem betterNotice_some {b c : NoticeClass} (h : Offered s c) :
    betterNotice s (some b) c = if s.setup.levels.get c < s.setup.levels.get b then some c else some b := by
  obtain ⟨hp, hl⟩ := h
  simp only [betterNotice, levelOf, hp, hl, decide_true, Bool.and_self, if_true]
  rfl

/-- One class more: the search still holds the first of those it has run through. -/
theorem Found.append {l : List NoticeClass} {best : Option NoticeClass} (h : Found s l best) (c : NoticeClass)
    (hlast : ∀ k ∈ l, classNumber k < classNumber c) : Found s (l ++ [c]) (betterNotice s best c) := by
  by_cases hc : Offered s c
  · cases best with
    | none =>
      rw [betterNotice_none hc]
      refine ⟨by simp, hc, fun k hk hne ho => ?_⟩
      rcases List.mem_append.mp hk with hk | hk
      · exact absurd ho (h k hk)
      · exact absurd (List.mem_singleton.mp hk) hne
    | some b =>
      rw [betterNotice_some hc]
      obtain ⟨hb, hob, hfirst⟩ := h
      by_cases hlt : s.setup.levels.get c < s.setup.levels.get b
      · rw [if_pos hlt]
        refine ⟨by simp, hc, fun k hk hne ho => ?_⟩
        rcases List.mem_append.mp hk with hk | hk
        · by_cases hkb : k = b
          · exact .inl (hkb ▸ hlt)
          · have := hfirst k hk hkb ho
            unfold Precedes at this ⊢
            omega
        · exact absurd (List.mem_singleton.mp hk) hne
      · rw [if_neg hlt]
        refine ⟨by simp [hb], hob, fun k hk hne ho => ?_⟩
        rcases List.mem_append.mp hk with hk | hk
        · exact hfirst k hk hne ho
        · have hkc := List.mem_singleton.mp hk
          have := hlast b hb
          subst hkc
          unfold Precedes
          omega
  · rw [betterNotice_of_not_offered hc]
    cases best with
    | none =>
      intro k hk
      rcases List.mem_append.mp hk with hk | hk
      · exact h k hk
      · exact List.mem_singleton.mp hk ▸ hc
    | some b =>
      obtain ⟨hb, hob, hfirst⟩ := h
      refine ⟨by simp [hb], hob, fun k hk hne ho => ?_⟩
      rcases List.mem_append.mp hk with hk | hk
      · exact hfirst k hk hne ho
      · exact absurd (List.mem_singleton.mp hk ▸ ho) hc

theorem found_foldl (s : State) {l m : List NoticeClass} {best : Option NoticeClass} (h : Found s m best)
    (hl : (m ++ l).Pairwise fun a b => classNumber a < classNumber b) :
    Found s (m ++ l) (l.foldl (betterNotice s) best) := by
  induction l generalizing m best with
  | nil => simpa using h
  | cons c l ih =>
    rw [List.foldl_cons, List.append_cons]
    refine ih (h.append c fun k hk => ?_) (by simpa using hl)
    exact (List.pairwise_append.mp hl).2.2 k hk c (by simp)

theorem NoticeClass.mem_all (c : NoticeClass) : c ∈ NoticeClass.all := by cases c <;> decide

theorem mostUrgent_found (s : State) : Found s NoticeClass.all (mostUrgent s) :=
  found_foldl s (m := []) (best := none) (fun k hk => absurd hk List.not_mem_nil) (by decide)

theorem mostUrgent_eq_none (h : mostUrgent s = none) (c : NoticeClass) : ¬Offered s c := by
  have hf := mostUrgent_found s
  rw [h] at hf
  exact hf c (NoticeClass.mem_all c)

theorem mostUrgent_eq_some {c : NoticeClass} (h : mostUrgent s = some c) : FirstOf s NoticeClass.all c := by
  have hf := mostUrgent_found s
  rwa [h] at hf

/-- The class that goes before every other offered one is the most urgent. -/
theorem mostUrgent_of_first {c : NoticeClass} (h : FirstOf s NoticeClass.all c) : mostUrgent s = some c := by
  cases hu : mostUrgent s with
  | none => exact absurd h.offered (mostUrgent_eq_none hu c)
  | some k =>
    have hk := mostUrgent_eq_some hu
    by_contra hne
    have hne' : k ≠ c := fun he => hne (he ▸ rfl)
    have h1 := h.precedes k (NoticeClass.mem_all k) hne' hk.offered
    have h2 := hk.precedes c (NoticeClass.mem_all c) hne'.symm h.offered
    unfold Precedes at h1 h2
    omega

/-! ## The transmitter -/

/-- The line but for the HELD request: nothing waits on an IDLE line, and nothing waits at level 3. -/
structure Serving (s : State) : Prop where
  idle : s.link.tx = .idle → s.link.slot = none ∧ ∀ c, s.notices.pending.get c = none
  level : ∀ c, s.notices.pending.get c ≠ none → s.setup.levels.get c < 3

theorem lineInv_iff : LineInv s ↔ Serving s ∧ ∀ k t b, s.link.rx = .held k t b → s.link.slot ≠ none :=
  ⟨fun ⟨hidle, hheld, hlevel⟩ => ⟨⟨hidle, hlevel⟩, hheld⟩, fun ⟨⟨hidle, hlevel⟩, hheld⟩ => ⟨hidle, hheld, hlevel⟩⟩

theorem arbitrate_rx (s : State) : (arbitrate s).link.rx = s.link.rx := by
  unfold arbitrate offerNotice sendNotice
  split
  · split
    · rfl
    · split
      · rfl
      · split <;> rfl
  · rfl

/-- The notice that goes on the line leaves the pending set (R176). -/
theorem sendNotice_serving (c : NoticeClass) (n : Notice)
    (hlevel : ∀ k, s.notices.pending.get k ≠ none → s.setup.levels.get k < 3) : Serving (sendNotice s c n) := by
  refine ⟨(fun h => nomatch h), fun k hk => hlevel k fun hn => hk ?_⟩
  change (s.notices.pending.set c none).get k = none
  by_cases he : c = k
  · subst he; simp
  · rw [PerClass.get_set_ne _ _ _ _ he, hn]

/-- A line free to take what waits leaves nothing waiting (R176). -/
theorem arbitrate_serving (hlevel : ∀ c, s.notices.pending.get c ≠ none → s.setup.levels.get c < 3) :
    Serving (arbitrate s) := by
  unfold arbitrate
  split
  · next htx =>
    split
    · exact ⟨(fun h => nomatch h), hlevel⟩
    · next hslot =>
      unfold offerNotice
      cases hu : mostUrgent s with
      | none =>
        have hnone : ∀ c, s.notices.pending.get c = none := fun c => by
          by_contra hc
          exact mostUrgent_eq_none hu c ⟨Option.isSome_iff_ne_none.mpr hc, hlevel c hc⟩
        exact ⟨fun _ => ⟨hslot, hnone⟩, hlevel⟩
      | some c =>
        obtain ⟨n, hn⟩ := Option.isSome_iff_exists.mp (mostUrgent_eq_some hu).offered.1
        simp only [hn]
        exact sendNotice_serving c n hlevel
  · next hbusy => exact ⟨fun h => absurd h hbusy, hlevel⟩

theorem not_held_of_idle (hs : LineInv s) (hi : s.link.tx = .idle) (k tag : Byte) (b : List Byte) :
    s.link.rx ≠ .held k tag b := fun h => hs.2.1 k tag b h (hs.1 hi).1

theorem placeReply_lineInv (r : Reply) (hs : LineInv s) : LineInv (placeReply s r) := by
  by_cases hi : s.link.tx = .idle
  · rw [placeReply_idle r hi]
    exact ⟨(fun h => nomatch h), fun k tag b h => absurd h (not_held_of_idle hs hi k tag b), hs.2.2⟩
  · rw [placeReply_behind r hi]
    exact ⟨fun h => absurd h hi, (fun _ _ _ _ h => nomatch h), hs.2.2⟩

/-! ## What the owners of the requests do to the line -/

/-- From s to t the line takes some occurrences, and nothing else. -/
def Posts (s t : State) : Prop := ∃ l, Posted s t l

theorem Posts.trans {u : State} (h : Posts s t) (k : Posts t u) : Posts s u := by
  obtain ⟨l, hl⟩ := h
  obtain ⟨m, hm⟩ := k
  exact ⟨l ++ m, hl.trans hm⟩

theorem Posts.lineInv (h : Posts s t) (hs : LineInv s) : LineInv t := h.choose_spec.lineInv hs

theorem Posts.refl (s : State) : Posts s s := ⟨[], Posted.refl s⟩

/-- A command that writes neither the line nor the levels posts nothing. -/
theorem Posts.of_frame {ws : List Block} (h : Frame ws s t) (hl : Block.line ∉ ws) (hv : Block.levels ∉ ws) :
    Posts s t := by
  obtain ⟨hlink, hnotices⟩ := h.line.resolve_left hl
  exact ⟨[], Posted.nothing hlink hnotices (h.levels.resolve_left hv)⟩

theorem takeSetStation_posts (s : State) (x : BitVec 24) : Posts s (takeSetStation x s).1 := by
  unfold takeSetStation
  split
  · exact Posts.refl s
  · generalize hu : s.setTravel
      { s.travel with station := x.toNat, frac := 0, edges := 0, triggerCount := 0 } = u
    have hquiet : Posts s u := hu ▸ ⟨[], Posted.nothing rfl rfl rfl⟩
    exact (hquiet.trans (programStationChange_posted u _ _)).trans ⟨[], Posted.nothing rfl rfl rfl⟩

theorem setTransfer_evaluateLowWater_posts (s : State) (t : Option Transfer) :
    Posts s (evaluateLowWater (setTransfer s t)) :=
  (show Posts s (setTransfer s t) from ⟨[], Posted.nothing rfl rfl rfl⟩).trans ⟨_, evaluateLowWater_posted _⟩

theorem takeSegmentRecord_posts (s : State) (r : SegmentWire) : Posts s (takeSegmentRecord r s).1 := by
  unfold takeSegmentRecord
  split
  · exact Posts.refl s
  · simp only
    split
    · exact setTransfer_evaluateLowWater_posts s none
    · exact appendSegment_posted s _ _

theorem takeAbortTransfer_posts (s : State) : Posts s (takeAbortTransfer s).1 := by
  unfold takeAbortTransfer
  split
  · exact Posts.refl s
  · exact setTransfer_evaluateLowWater_posts s none

theorem takeCutProgram_posts (s : State) (c : BitVec 24) : Posts s (takeCutProgram c s).1 := by
  unfold takeCutProgram
  split
  · exact Posts.refl s
  · simp only
    generalize hu : s.setProgram { s.program with segments := cutSegments s.program.segments c.toNat } = u
    have hquiet : Posts s u := hu ▸ ⟨[], Posted.nothing rfl rfl rfl⟩
    exact (hquiet.trans ⟨_, notePosition_posted u (position s)⟩).trans ⟨_, evaluateLowWater_posted _⟩

theorem checkHousing_evaluateBelt_posts (s : State) : Posts s (evaluateBelt (checkHousing s)) :=
  Posts.trans ⟨_, checkHousing_posted s⟩ ⟨_, evaluateBelt_quiet _⟩

theorem takeClearTotals_posts (s : State) : Posts s (takeClearTotals s).1 := by
  unfold takeClearTotals
  simp only
  generalize hu : hand (s.setConveyor
    { s.conveyor with totalCut := 0, totalDelivered := 0, unattributed := 0, housing := 0 }) .clearRemainder = u
  have hquiet : Posts s u := hu ▸ ⟨[], Posted.nothing rfl rfl rfl⟩
  exact hquiet.trans (checkHousing_evaluateBelt_posts u)

theorem takeWriteControl_posts (s : State) (w : ControlWire) : Posts s (takeWriteControl w s).1 := by
  unfold takeWriteControl
  split
  · exact Posts.refl s
  · next g _ =>
    simp only
    generalize hu : setWorking s { s.setup with control := g } = u
    have hquiet : Posts s u := hu ▸ ⟨[], Posted.nothing rfl rfl rfl⟩
    exact hquiet.trans ⟨_, evaluateLowWater_posted u⟩

/-- Dropping the notices of level 3 leaves none of that level pending (R164). -/
theorem keptNotices_get (l : PerClass Nat) (p : PerClass (Option Notice)) (c : NoticeClass) :
    (keptNotices l p).get c = if 3 ≤ l.get c then none else p.get c := by
  cases c <;> rfl

theorem dropSilenced_lineInv (hidle : s.link.tx = .idle → s.link.slot = none ∧ ∀ c, s.notices.pending.get c = none)
    (hheld : ∀ k tag b, s.link.rx = .held k tag b → s.link.slot ≠ none) : LineInv (dropSilenced s) := by
  refine ⟨fun h => ⟨(hidle h).1, fun c => ?_⟩, hheld, fun c => ?_⟩
  · change (keptNotices s.setup.levels s.notices.pending).get c = none
    rw [keptNotices_get, (hidle h).2 c, ite_self]
  · change (keptNotices s.setup.levels s.notices.pending).get c ≠ none → s.setup.levels.get c < 3
    rw [keptNotices_get]
    split <;> simp_all

/-- The owner of every request but the Link Reset leaves a line that never waits. -/
theorem takeRequest_lineInv (r : Request) (hr : r ≠ .linkReset) (hs : LineInv s) : LineInv (takeRequest r s).1 := by
  cases r with
  | linkReset => exact absurd rfl hr
  | setStation x => exact (takeSetStation_posts s x).lineInv hs
  | segmentRecord w => exact (takeSegmentRecord_posts s w).lineInv hs
  | abortTransfer => exact (takeAbortTransfer_posts s).lineInv hs
  | cutProgram c => exact (takeCutProgram_posts s c).lineInv hs
  | clearTotals => exact (takeClearTotals_posts s).lineInv hs
  | writeControl w => exact (takeWriteControl_posts s w).lineInv hs
  | readStatus => exact ⟨hs.1, hs.2.1, hs.2.2⟩
  | writeNotice w => exact dropSilenced_lineInv (s := setWorking s _) hs.1 hs.2.1
  | _ =>
    exact (Posts.of_frame (takeRequest_writes s _) (Block.not_mem rfl) (Block.not_mem rfl)).lineInv hs

/-! ## The console -/

theorem respond_lineInv (kind tag : Byte) {take : State → State × Answer}
    (ht : ∀ {s}, LineInv s → LineInv (take s).1) (hs : LineInv s) : LineInv (respond kind tag take s) := by
  by_cases hc : s.link.tx = .idle ∧ (take s).1.link.tx ≠ .idle
  · cases hf : Config.replyFirst s.freeCount with
    | true =>
      rw [respond_replyFirst hc.1 hc.2 hf]
      have hbusy : LineInv (s.setLink { s.link with tx := .reply ⟨kind, tag, (take s).2⟩ }) :=
        ⟨(fun h => nomatch h), fun k g b h => absurd h (not_held_of_idle hs hc.1 k g b), hs.2.2⟩
      obtain ⟨-, hheld, hlevel⟩ := ht hbusy
      exact ⟨(fun h => nomatch h), hheld, hlevel⟩
    | false =>
      rw [respond_noticeFirst hc.1 hc.2 hf]
      exact placeReply_lineInv _ (ht hs)
  · rw [respond_placed hc]
    exact placeReply_lineInv _ (ht hs)

theorem programLinkReset_line (s : State) :
    (programLinkReset s).link = s.link ∧ (programLinkReset s).notices = s.notices := by
  unfold programLinkReset
  simp only
  split <;> exact ⟨rfl, rfl⟩

/-- The Link Reset leaves the link but for the sequence, and no notice pending (R184). -/
theorem linkResetActs_pending (s : State) (c : NoticeClass) :
    (linkResetActs s).notices.pending.get c = none := by
  have h : (linkResetActs s).notices.pending = PerClass.fill none := by
    unfold linkResetActs
    simp [clearNotices, programLinkReset_line]
  rw [h]
  exact PerClass.get_fill c none

theorem linkResetActs_link (s : State) : (linkResetActs s).link = { s.link with sequence := 0 } := by
  unfold linkResetActs
  simp [clearNotices, programLinkReset_line]

theorem linkResetActs_lineInv (hs : LineInv s) : LineInv (linkResetActs s) := by
  refine ⟨fun h => ⟨?_, linkResetActs_pending s⟩, fun k tag b h => ?_, fun c h => absurd (linkResetActs_pending s c) h⟩
  · rw [linkResetActs_link] at h ⊢
    exact (hs.1 h).1
  · rw [linkResetActs_link] at h ⊢
    exact hs.2.1 k tag b h

theorem serveRequest_lineInv (tag : Byte) (r : Request) (hs : LineInv s) : LineInv (serveRequest s tag r) := by
  rcases serveRequest_cases s tag r with ⟨a, -, h⟩ | ⟨-, -, h⟩ | ⟨-, hr, h⟩ <;> rw [h]
  · exact placeReply_lineInv _ hs
  · exact linkResetActs_lineInv (placeReply_lineInv _ hs)
  · exact respond_lineInv _ _ (takeRequest_lineInv r hr) hs

theorem dispatch_lineInv (kind tag : Byte) (body : List Byte) (hs : LineInv s) :
    LineInv (dispatch s kind tag body) := by
  rcases dispatch_cases s kind tag body with ⟨r, h⟩ | ⟨r, -, -, h⟩ <;> rw [h]
  · exact placeReply_lineInv _ hs
  · exact serveRequest_lineInv _ _ hs

/-- A receiver state other than HELD. -/
def notHeld : Receiver → Bool
  | .held _ _ _ => false
  | _ => true

theorem setRx_lineInv {r : Receiver} (hr : notHeld r = true ∨ s.link.slot ≠ none) (hs : LineInv s) :
    LineInv (setRx s r) := by
  refine ⟨hs.1, fun k tag b h => ?_, hs.2.2⟩
  change r = .held k tag b at h
  subst h
  exact hr.resolve_left Bool.false_ne_true

theorem setCounters_lineInv (n : LinkCounters) (hs : LineInv s) : LineInv (setCounters s n) :=
  ⟨hs.1, hs.2.1, hs.2.2⟩

theorem frameGood_lineInv (kind tag : Byte) (body : List Byte) (hs : LineInv s) :
    LineInv (frameGood s kind tag body) := by
  have hgood : LineInv (countGood s) := setCounters_lineInv _ hs
  unfold frameGood
  simp only
  split
  · exact dispatch_lineInv _ _ _ (setRx_lineInv (.inl rfl) hgood)
  · next h => exact setRx_lineInv (.inr (by rw [h]; exact nofun)) hgood

theorem notHeld_afterBody (len : Nat) (kind tag : Byte) (got : List Byte) :
    notHeld (afterBody len kind tag got) = true := by
  unfold afterBody
  split <;> rfl

theorem takeByte_lineInv (b : Byte) (hs : LineInv s) : LineInv (takeByte s b) := by
  unfold takeByte
  split
  · split
    · exact setRx_lineInv (.inl rfl) hs
    · exact hs
  · split
    · exact setRx_lineInv (.inl rfl) (setCounters_lineInv _ hs)
    · exact setRx_lineInv (.inl rfl) hs
  · exact setRx_lineInv (.inl rfl) hs
  · exact setRx_lineInv (.inl (notHeld_afterBody _ _ _ _)) hs
  · exact setRx_lineInv (.inl (notHeld_afterBody _ _ _ _)) hs
  · exact setRx_lineInv (.inl rfl) hs
  · unfold checkFrame
    split
    · exact frameGood_lineInv _ _ _ hs
    · exact setRx_lineInv (.inl rfl) (setCounters_lineInv _ hs)
  · split
    · exact setCounters_lineInv _ hs
    · exact hs

theorem takeBadByte_lineInv (hs : LineInv s) : LineInv (takeBadByte s) := by
  unfold takeBadByte
  split
  · exact hs
  · exact hs
  · exact setRx_lineInv (.inl rfl) (setCounters_lineInv _ hs)

theorem feed_lineInv (bs : List Byte) (hs : LineInv s) : LineInv (feed s bs) := by
  unfold feed
  induction bs generalizing s with
  | nil => exact hs
  | cons b bs ih => exact ih (takeByte_lineInv b hs)

theorem arriveFrame_lineInv (kind tag : Byte) (body : List Byte) {serve : State → State}
    (hserve : ∀ {s}, LineInv s → LineInv (serve s)) (hs : LineInv s) :
    LineInv (arriveFrame kind tag body serve s) := by
  have hgood : LineInv (countGood s) := setCounters_lineInv _ hs
  unfold arriveFrame
  split
  · exact hs
  · split
    · split
      · exact hserve hgood
      · next h => exact setRx_lineInv (.inr fun hn => nomatch (show none = _ from hn.symm.trans h)) hgood
    · exact feed_lineInv _ hs

/-- As the line falls IDLE the reply or the most urgent notice goes on it, and a HELD request is dispatched. -/
theorem freeLine_lineInv (hs : LineInv s) : LineInv (freeLine s) := by
  have hserving : Serving (arbitrate (s.setLink { s.link with tx := .idle })) := arbitrate_serving hs.2.2
  have hrx := arbitrate_rx (s.setLink { s.link with tx := .idle })
  unfold freeLine
  simp only
  generalize arbitrate (s.setLink { s.link with tx := .idle }) = t at hserving hrx ⊢
  have hrest : (∀ k tag b, t.link.rx ≠ .held k tag b) → LineInv t := fun h =>
    lineInv_iff.mpr ⟨hserving, fun k tag b he => absurd he (h k tag b)⟩
  split
  · unfold dispatchHeld
    split
    · refine dispatch_lineInv _ _ _ (lineInv_iff.mpr ⟨⟨hserving.idle, hserving.level⟩, fun k tag b h => ?_⟩)
      exact nomatch (show Receiver.hunt = .held k tag b from h)
    · next h => exact hrest h
  · next hslot => exact hrest fun k tag b h => hs.2.1 k tag b (hrx.symm.trans h) hslot

theorem exec_console_lineInv {i : Instr} (hi : consoleRow i = true) (hs : LineInv s) (h : exec i s = .next t) :
    LineInv t := by
  have hrow : ∀ {tag r}, i.request? = some (tag, r) → LineInv t := by
    intro tag r hr
    rw [exec_of_request hr] at h
    cases h
    exact arriveFrame_lineInv _ _ _ (serveRequest_lineInv tag r) hs
  cases i with
  | byteReceived b framingError =>
    cases h
    split
    · exact hs
    · split
      · exact takeBadByte_lineInv hs
      · exact takeByte_lineInv b hs
  | unknownRequest tag kind body =>
    cases h
    exact arriveFrame_lineInv _ _ _ (dispatch_lineInv kind tag body) hs
  | silenceTimerExpiry =>
    cases h
    split
    · exact hs
    · exact hs
    · exact setRx_lineInv (.inl rfl) (setCounters_lineInv _ hs)
  | transmitterIdle =>
    cases h
    split
    · exact hs
    · exact freeLine_lineInv hs
  | _ =>
    first
    | exact hrow rfl
    | cases hi

/-! ## The rows that do not come over the console -/

theorem stationMoved_posts (s : State) (x : Nat) (dir : Direction) : Posts s (stationMoved s x dir) :=
  (show Posts s _ from programStationChange_posted s x dir).trans
    ⟨[], Posted.nothing (by simp [stationMoved]) (by simp [stationMoved]) (by simp [stationMoved, State.setup])⟩

theorem countPulse_posts (s : State) (dir : Direction) : Posts s (countPulse s dir) := by
  unfold countPulse
  split
  · exact Posts.refl s
  · next x f _ =>
    simp only
    generalize hu : (if s.travel.standstill then
      hand (s.setTravel (pulsedTravel s.travel dir x f)) .standstillEndEvent
      else s.setTravel (pulsedTravel s.travel dir x f)) = u
    have hquiet : Posts s u := by
      subst hu
      split <;> exact ⟨[], Posted.nothing rfl rfl rfl⟩
    split
    · exact hquiet
    · exact hquiet.trans (stationMoved_posts u _ _)

theorem takeTrigger_posts (s : State) (k : TriggerKind) (x : Nat) : Posts s (takeTrigger s k x) := by
  have htravel : ∀ k, Posts s (takeTravelTrigger s k x) := by
    intro k
    unfold takeTravelTrigger
    split
    · exact Posts.refl s
    · exact ⟨_, dropTrigger_posted s k⟩
    · exact ⟨[], Posted.nothing rfl rfl rfl⟩
    · exact ⟨_, dropTrigger_posted s k⟩
    · split
      · exact ⟨[], Posted.nothing rfl rfl rfl⟩
      · exact Posts.refl s
    · exact ⟨_, dropTrigger_posted s k⟩
  unfold takeTrigger
  split
  · exact htravel _
  · exact htravel _
  · exact Posts.refl s
  · exact Posts.refl s

theorem takeIntervalExpiry_posts (s : State) : Posts s (takeIntervalExpiry s) := by
  unfold takeIntervalExpiry
  split
  · exact Posts.refl s
  · simp only
    generalize hu : s.setScanner { s.scanner with intervalTimer := some (scanInterval s.setup) } = u
    have hquiet : Posts s u := hu ▸ ⟨[], Posted.nothing rfl rfl rfl⟩
    split
    · exact hquiet.trans ⟨[], Posted.nothing rfl rfl rfl⟩
    · exact hquiet.trans ⟨_, dropTrigger_posted u _⟩
    · exact hquiet

theorem fillBuffer_processBuffer_posts (s : State) (raw : Octet (BitVec 12)) :
    Posts s (processBuffer (fillBuffer s raw)) :=
  (show Posts s (fillBuffer s raw) from ⟨[], Posted.nothing rfl rfl rfl⟩).trans (processBuffer_posted _)

theorem leaveScanning_posts (s : State) : Posts s (leaveScanning s) := by
  unfold leaveScanning
  split <;> exact ⟨[], Posted.nothing rfl rfl rfl⟩

theorem endScan_posts (s : State) (f : ScanInFlight) (raw : Octet (BitVec 12)) : Posts s (endScan s f raw) := by
  unfold endScan
  have hbuffer := fillBuffer_processBuffer_posts s raw
  generalize processBuffer (fillBuffer s raw) = t at hbuffer ⊢
  simp only
  generalize hu : t.setScanner { t.scanner with completed := wrap16 t.scanner.completed, inFlight := none } = u
  have hquiet : Posts t u := hu ▸ ⟨[], Posted.nothing rfl rfl rfl⟩
  exact ((hbuffer.trans hquiet).trans (controlStep_posted u _)).trans (leaveScanning_posts _)

theorem takeBreachMark_posts (s : State) (id : Nat) (d : Side) (depth : Int) (bound : Nat) :
    Posts s (takeBreachMark s id d depth bound) := by
  unfold takeBreachMark
  split
  · exact Posts.refl s
  · split
    · exact Posts.refl s
    · simp only
      generalize hu : s.setObstacles (setBreached s.obstacles id) = u
      have hquiet : Posts s u := hu ▸ ⟨[], Posted.nothing rfl rfl rfl⟩
      have hpost := hquiet.trans ⟨_, Posted.post u .obstacleBreach (.obstacleBreach id d depth bound)⟩
      split
      · exact hpost.trans ⟨[], Posted.nothing rfl rfl rfl⟩
      · exact hpost

theorem takeCutReport_posts (s : State) (r : CutReport) : Posts s (takeCutReport s r) := by
  obtain ⟨c, n, h⟩ : ∃ c n, takeCutReport s r = evaluateBelt (checkHousing ((s.setConveyor c).setFreeCount n)) :=
    ⟨_, _, rfl⟩
  have hquiet : Posts s ((s.setConveyor c).setFreeCount n) := ⟨[], Posted.nothing rfl rfl rfl⟩
  rw [h]
  exact hquiet.trans (checkHousing_evaluateBelt_posts _)

theorem beltInterval_posts (s : State) (c : Conveyor) (carry : Nat) :
    Posts s (evaluateBelt (stallCheck (checkHousing (creditCarry (s.setConveyor c) carry)))) :=
  ((((show Posts s (s.setConveyor c) from ⟨_, Posted.setConveyor s c⟩).trans ⟨_, creditCarry_quiet _ carry⟩).trans
    ⟨_, checkHousing_posted _⟩).trans ⟨_, stallCheck_posted _⟩).trans ⟨_, evaluateBelt_quiet _⟩

theorem takeHanded_posts (s : State) (e : Instr) : Posts s (takeHanded s e) := ⟨[], Posted.nothing rfl rfl rfl⟩

theorem transferTimeout_posts (s : State) (d : NoticeDetail) :
    Posts s (evaluateLowWater (post (setTransfer s none) .transferTimeout d)) :=
  ((show Posts s (setTransfer s none) from ⟨[], Posted.nothing rfl rfl rfl⟩).trans ⟨_, Posted.post _ _ d⟩).trans
    ⟨_, evaluateLowWater_posted _⟩

/-- The settings taken drop the notices of their level 3, and the baud rate is the link's alone. -/
theorem takeSettings_lineInv (p : Setup) (hs : LineInv s) : LineInv (takeSettings s p) :=
  dropSilenced_lineInv hs.1 hs.2.1

theorem load_lineInv (hs : LineInv s) : LineInv (load s) := by
  have htaken := takeSettings_lineInv (loadChoice s.store).1 hs
  unfold load
  simp only
  generalize takeSettings s (loadChoice s.store).1 = t at htaken ⊢
  have hstored : ∀ v : Store, v.working = t.store.working → LineInv (t.setStore v) := fun v hv =>
    ⟨htaken.1, htaken.2.1, by
      have hlevels : (t.setStore v).setup.levels = t.setup.levels := congrArg Setup.levels hv
      rw [hlevels]
      exact htaken.2.2⟩
  split
  · exact (Posted.post _ _ _).lineInv (hstored _ rfl)
  · exact hstored _ rfl

theorem lineInv_fullReset (s : State) (a b : Bool) : LineInv
    { State.reset with
      travel := { State.reset.travel with phaseA := a, phaseB := b },
      store := s.store.afterReset, freeCount := s.freeCount, pending := s.pending } := by
  have hnone : ∀ c, State.reset.notices.pending.get c = none := fun c => PerClass.get_fill c none
  refine ⟨fun _ => ⟨rfl, hnone⟩, fun k t b h => ?_, fun c hc => absurd (hnone c) hc⟩
  exact nomatch (show Receiver.hunt = .held k t b from h)

/-- The rows that write the line, by what they post. -/
theorem event_lineInv {i : Instr} (hi : consoleRow i = false) (hs : LineInv s) (h : exec i s = .next t) :
    LineInv t := by
  have hposts : Posts s t → LineInv t := fun hp => hp.lineInv hs
  cases i with
  | fullReset a b =>
    cases h
    exact lineInv_fullReset s a b
  | setupLoad =>
    cases h
    split
    · exact load_lineInv hs
    · exact hs
  | encoderEdge a b =>
    cases h
    have hedged : ∀ n, Posts s (s.setTravel (edged s.travel a b n)) := fun n => ⟨[], Posted.nothing rfl rfl rfl⟩
    refine hposts ?_
    split
    · exact Posts.refl s
    · exact hedged 0
    · split
      · exact (hedged 0).trans (countPulse_posts _ _)
      · exact hedged _
    · split
      · exact (hedged 0).trans (countPulse_posts _ _)
      · exact hedged _
  | triggerTaken k x =>
    cases h
    exact hposts ((takeHanded_posts s _).trans (takeTrigger_posts _ k x))
  | intervalTimerExpiry =>
    cases h
    exact hposts (takeIntervalExpiry_posts s)
  | singlePassEnd raw =>
    cases h
    refine hposts ?_
    split
    · exact (fillBuffer_processBuffer_posts s raw).trans ⟨[], Posted.nothing rfl rfl rfl⟩
    · exact Posts.refl s
  | scanEnd raw =>
    cases h
    refine hposts ?_
    split
    · exact endScan_posts s _ raw
    · exact Posts.refl s
  | breachMark id d depth bound =>
    cases h
    exact hposts ((takeHanded_posts s _).trans (takeBreachMark_posts _ id d depth bound))
  | cutReport r =>
    cases h
    exact hposts ((takeHanded_posts s _).trans (takeCutReport_posts _ r))
  | beltInterval =>
    cases h
    exact hposts (beltInterval_posts s _ _)
  | itemTimerExpiry =>
    simp only [exec, execItemTimerExpiry] at h
    split at h
    · cases h
      exact hs
    · cases h
      exact hposts (transferTimeout_posts s _)
  | switchSample closed =>
    cases h
    have hsampled : Posts s (s.setInputs (sampleInputs s.inputs closed)) := ⟨[], Posted.nothing rfl rfl rfl⟩
    exact hposts (hsampled.trans (takeChanges_posted _ _))
  | supplyMeasurement m =>
    cases h
    refine hposts ?_
    split
    · exact Posts.refl s
    · exact takeMeasurement_posted s _
  | _ =>
    exact (Posts.of_frame (event_writes hi h) (Block.not_mem rfl) (Block.not_mem rfl)).lineInv hs

end

/-- Settles O6: every command posts occurrences in a row, writes levels with the notices of level 3 dropped, or
places a reply, and the transmitter leaves nothing waiting. -/
theorem lineInvKept : Obligations.LineInvKept := by
  unfold Obligations.LineInvKept
  intro s t hs h
  have hexec : ∀ {i s t}, LineInv s → exec i s = .next t → LineInv t := by
    intro i s t hs h
    cases hi : consoleRow i with
    | true => exact exec_console_lineInv hi hs h
    | false => exact event_lineInv hi hs h
  unfold Machine.step at h
  split at h
  · next c rest _ =>
    have hfront : LineInv (s.setPending rest) := ⟨hs.1, hs.2.1, hs.2.2⟩
    exact hexec hfront h
  · exact hexec hs h
  · cases h
    exact hs

end Sys2Proof.Machine
end

section
/-! The wire both ways: fields and their bytes, a request and its body, a frame and its bytes. -/

namespace Sys2Proof

/-! ## Fields -/

@[simp] theorem u16_bytes (x : BitVec 16) : u16 (byteOf x 0) (byteOf x 1) = x := by
  unfold u16 byteOf
  ext i hi
  rw [BitVec.getElem_append]
  split
  · simp [BitVec.getLsbD_eq_getElem hi]
  · simp [show 8 + (i - 8) = i by omega, BitVec.getLsbD_eq_getElem hi]

@[simp] theorem u24_bytes (x : BitVec 24) : u24 (byteOf x 0) (byteOf x 1) (byteOf x 2) = x := by
  unfold u24 byteOf
  ext i hi
  rw [BitVec.getElem_append]
  split
  · rw [BitVec.getElem_append]
    split
    · simp [BitVec.getLsbD_eq_getElem hi]
    · simp [show 8 + (i - 8) = i by omega, BitVec.getLsbD_eq_getElem hi]
  · simp [show 16 + (i - 16) = i by omega, BitVec.getLsbD_eq_getElem hi]

theorem getLsbD_u16 (a b : Byte) (i : Nat) :
    (u16 a b).getLsbD i = if i < 8 then a.getLsbD i else b.getLsbD (i - 8) :=
  BitVec.getLsbD_append

theorem getElem_u16 (a b : Byte) (i : Nat) (hi : i < 16) :
    (u16 a b)[i] = if i < 8 then a.getLsbD i else b.getLsbD (i - 8) := by
  rw [← BitVec.getLsbD_eq_getElem hi, getLsbD_u16]

theorem getLsbD_u24 (a b c : Byte) (i : Nat) :
    (u24 a b c).getLsbD i = if i < 16 then (u16 a b).getLsbD i else c.getLsbD (i - 16) :=
  BitVec.getLsbD_append

@[simp] theorem bytes16_u16 (a b : Byte) : bytes16 (u16 a b) = [a, b] := by
  simp only [bytes16, byteOf, List.cons.injEq, and_true]
  constructor
  · ext i hi
    simp [getLsbD_u16, hi]
  · ext i hi
    simp [getLsbD_u16, BitVec.getLsbD_eq_getElem hi]

@[simp] theorem bytes24_u24 (a b c : Byte) : bytes24 (u24 a b c) = [a, b, c] := by
  simp only [bytes24, byteOf, List.cons.injEq, and_true]
  refine ⟨?_, ?_, ?_⟩
  · ext i hi
    simp [getLsbD_u24, getElem_u16, show i < 16 by omega, hi]
  · ext i hi
    simp [getLsbD_u24, getElem_u16, show 8 + i < 16 by omega, BitVec.getLsbD_eq_getElem hi]
  · ext i hi
    simp [getLsbD_u24, BitVec.getLsbD_eq_getElem hi]

/-! ## Records and groups: read back, and written back -/

theorem SegmentWire.ofBytes_bytes (r : SegmentWire) : SegmentWire.ofBytes r.bytes = some r := by
  simp [SegmentWire.bytes, SegmentWire.ofBytes, bytes16, bytes24]

theorem ObstacleWire.ofBytes_bytes (o : ObstacleWire) : ObstacleWire.ofBytes o.bytes = some o := by
  simp [ObstacleWire.bytes, ObstacleWire.ofBytes, bytes16, bytes24]

theorem GeometryWire.ofBytes_bytes (g : GeometryWire) : GeometryWire.ofBytes g.bytes = some g := by
  simp [GeometryWire.bytes, GeometryWire.ofBytes, bytes16, Quad.toList]

theorem ChannelWire.ofBytes_bytes (g : ChannelWire) : ChannelWire.ofBytes g.bytes = some g := by
  simp [ChannelWire.bytes, ChannelWire.ofBytes, bytes16]

theorem ControlWire.ofBytes_bytes (g : ControlWire) : ControlWire.ofBytes g.bytes = some g := by
  simp [ControlWire.bytes, ControlWire.ofBytes, bytes16]

theorem legGroupOfBytes_bytes (g : Sides LegWire) : legGroupOfBytes (legGroupBytes g) = some g := by
  simp [legGroupBytes, LegWire.bytes, legGroupOfBytes, bytes16]

theorem ScanWire.ofBytes_bytes (g : ScanWire) : ScanWire.ofBytes g.bytes = some g := by
  simp [ScanWire.bytes, ScanWire.ofBytes, bytes16, Octet.toList]

theorem ConveyorWire.ofBytes_bytes (g : ConveyorWire) : ConveyorWire.ofBytes g.bytes = some g := by
  simp [ConveyorWire.bytes, ConveyorWire.ofBytes, bytes16]

theorem TruckWire.ofBytes_bytes (g : TruckWire) : TruckWire.ofBytes g.bytes = some g := by
  simp [TruckWire.bytes, TruckWire.ofBytes, bytes16]

theorem LimitsWire.ofBytes_bytes (g : LimitsWire) : LimitsWire.ofBytes g.bytes = some g := by
  simp [LimitsWire.bytes, LimitsWire.ofBytes, bytes16]

theorem noticeOfBytes_bytes (g : PerClass Byte) : noticeOfBytes (noticeBytes g) = some g := rfl

theorem SegmentWire.bytes_of_ofBytes {l : List Byte} {r : SegmentWire} (h : SegmentWire.ofBytes l = some r) :
    r.bytes = l := by
  unfold SegmentWire.ofBytes at h
  split at h
  · cases h; simp [SegmentWire.bytes]
  · cases h

theorem ObstacleWire.bytes_of_ofBytes {l : List Byte} {o : ObstacleWire} (h : ObstacleWire.ofBytes l = some o) :
    o.bytes = l := by
  unfold ObstacleWire.ofBytes at h
  split at h
  · cases h; simp [ObstacleWire.bytes]
  · cases h

theorem GeometryWire.bytes_of_ofBytes {l : List Byte} {g : GeometryWire} (h : GeometryWire.ofBytes l = some g) :
    g.bytes = l := by
  unfold GeometryWire.ofBytes at h
  split at h
  · cases h; simp [GeometryWire.bytes, Quad.toList]
  · cases h

theorem ChannelWire.bytes_of_ofBytes {l : List Byte} {g : ChannelWire} (h : ChannelWire.ofBytes l = some g) :
    g.bytes = l := by
  unfold ChannelWire.ofBytes at h
  split at h
  · cases h; simp [ChannelWire.bytes]
  · cases h

theorem ControlWire.bytes_of_ofBytes {l : List Byte} {g : ControlWire} (h : ControlWire.ofBytes l = some g) :
    g.bytes = l := by
  unfold ControlWire.ofBytes at h
  split at h
  · cases h; simp [ControlWire.bytes]
  · cases h

theorem legGroupBytes_of_ofBytes {l : List Byte} {g : Sides LegWire} (h : legGroupOfBytes l = some g) :
    legGroupBytes g = l := by
  unfold legGroupOfBytes at h
  split at h
  · cases h; simp [legGroupBytes, LegWire.bytes]
  · cases h

theorem ScanWire.bytes_of_ofBytes {l : List Byte} {g : ScanWire} (h : ScanWire.ofBytes l = some g) :
    g.bytes = l := by
  unfold ScanWire.ofBytes at h
  split at h
  · cases h; simp [ScanWire.bytes, Octet.toList]
  · cases h

theorem ConveyorWire.bytes_of_ofBytes {l : List Byte} {g : ConveyorWire} (h : ConveyorWire.ofBytes l = some g) :
    g.bytes = l := by
  unfold ConveyorWire.ofBytes at h
  split at h
  · cases h; simp [ConveyorWire.bytes]
  · cases h

theorem TruckWire.bytes_of_ofBytes {l : List Byte} {g : TruckWire} (h : TruckWire.ofBytes l = some g) :
    g.bytes = l := by
  unfold TruckWire.ofBytes at h
  split at h
  · cases h; simp [TruckWire.bytes]
  · cases h

theorem LimitsWire.bytes_of_ofBytes {l : List Byte} {g : LimitsWire} (h : LimitsWire.ofBytes l = some g) :
    g.bytes = l := by
  unfold LimitsWire.ofBytes at h
  split at h
  · cases h; simp [LimitsWire.bytes]
  · cases h

theorem noticeBytes_of_ofBytes {l : List Byte} {g : PerClass Byte} (h : noticeOfBytes l = some g) :
    noticeBytes g = l := by
  unfold noticeOfBytes at h
  split at h
  · cases h; rfl
  · cases h

/-! ## A request and its body -/

/-- A Write Setup of no group carries a group byte above 16. -/
def Request.grouped : Request → Bool
  | .writeNoGroup g _ => decide (16 < g.toNat)
  | _ => true

theorem toNat_channelGroup (c : Channel) : (channelGroup c).toNat = c.val + 1 := by
  have := c.isLt
  simp only [channelGroup, BitVec.toNat_ofNat]
  omega

theorem parseGroup_channel (c : Channel) (g : ChannelWire) :
    parseGroup (channelGroup c) g.bytes = some (.writeChannel c g) := by
  have h := toNat_channelGroup c
  unfold parseGroup
  rw [h, ChannelWire.ofBytes_bytes]
  match c with
  | 0 | 1 | 2 | 3 | 4 | 5 | 6 | 7 => rfl

theorem parseGroup_noGroup {g : Byte} (rest : List Byte) (h : 16 < g.toNat) :
    parseGroup g rest = some (.writeNoGroup g rest) := by
  unfold parseGroup
  split <;> first | omega | rfl

/-- A request is read back from its kind and body. -/
theorem parseRequest_body (r : Request) (h : r.grouped = true) : parseRequest r.kind r.body = some r := by
  cases r with
  | writeGeometry g => exact congrArg (Option.map Request.writeGeometry) g.ofBytes_bytes
  | writeChannel c g => exact parseGroup_channel c g
  | writeControl g => exact congrArg (Option.map Request.writeControl) g.ofBytes_bytes
  | writeLeg g => exact congrArg (Option.map Request.writeLeg) (legGroupOfBytes_bytes g)
  | writeScan g => exact congrArg (Option.map Request.writeScan) g.ofBytes_bytes
  | writeConveyor g => exact congrArg (Option.map Request.writeConveyor) g.ofBytes_bytes
  | writeTruck g => exact congrArg (Option.map Request.writeTruck) g.ofBytes_bytes
  | writeLimits g => exact congrArg (Option.map Request.writeLimits) g.ofBytes_bytes
  | writeNoGroup g rest => exact parseGroup_noGroup rest (of_decide_eq_true h)
  | segmentRecord w => exact congrArg (Option.map Request.segmentRecord) w.ofBytes_bytes
  | addObstacle o => exact congrArg (Option.map Request.addObstacle) o.ofBytes_bytes
  | _ =>
    simp [Request.kind, Request.body, parseRequest, parse0, parse1, parse16, parse24, bytes16, bytes24, parseGroup,
      noticeOfBytes_bytes]

/-- The body of a request has a length that its kind allows. -/
theorem lengthOk_body (r : Request) (h : r.grouped = true) : lengthOk r.kind r.body = true := by
  cases r with
  | writeChannel c g =>
    have hc := toNat_channelGroup c
    have hlt := c.isLt
    have hlength : groupLength (channelGroup c).toNat = 11 := by
      rw [hc]
      match c with
      | 0 | 1 | 2 | 3 | 4 | 5 | 6 | 7 => rfl
    simp [Request.kind, Request.body, lengthOk, ChannelWire.bytes, bytes16, hlength]
  | writeNoGroup g rest =>
    have hg : 16 < g.toNat := of_decide_eq_true h
    simp [Request.kind, Request.body, lengthOk, hg]
  | _ => rfl

/-! ## A body and its request -/

theorem parse0_some {q r : Request} {l : List Byte} (h : parse0 q l = some r) : r = q ∧ l = [] := by
  unfold parse0 at h
  split at h
  · cases h; exact ⟨rfl, rfl⟩
  · cases h

theorem parse1_some {q : Byte → Request} {r : Request} {l : List Byte} (h : parse1 q l = some r) :
    ∃ a, r = q a ∧ l = [a] := by
  unfold parse1 at h
  split at h
  · cases h; exact ⟨_, rfl, rfl⟩
  · cases h

theorem parse16_some {q : BitVec 16 → Request} {r : Request} {l : List Byte} (h : parse16 q l = some r) :
    ∃ x, r = q x ∧ l = bytes16 x := by
  unfold parse16 at h
  split at h
  · cases h; exact ⟨_, rfl, by simp⟩
  · cases h

theorem parse24_some {q : BitVec 24 → Request} {r : Request} {l : List Byte} (h : parse24 q l = some r) :
    ∃ x, r = q x ∧ l = bytes24 x := by
  unfold parse24 at h
  split at h
  · cases h; exact ⟨_, rfl, by simp⟩
  · cases h

theorem channelGroup_of_toNat {g : Byte} (c : Channel) (h : g.toNat = c.val + 1) : channelGroup c = g :=
  BitVec.eq_of_toNat_eq ((toNat_channelGroup c).trans h.symm)

theorem group_of_toNat {g : Byte} {n : Nat} (hn : n < 256) (h : g.toNat = n) : BitVec.ofNat 8 n = g :=
  BitVec.eq_of_toNat_eq (by simp only [BitVec.toNat_ofNat]; omega)

/-- A group read from the bytes after its group byte is written back as them. -/
theorem parseGroup_some {g : Byte} {rest : List Byte} {r : Request} (h : parseGroup g rest = some r) :
    r.kind = 0x7A#8 ∧ r.body = g :: rest ∧ r.grouped = true := by
  have hchannel : ∀ c : Channel, g.toNat = c.val + 1 →
      (ChannelWire.ofBytes rest).map (Request.writeChannel c) = some r →
      r.kind = 0x7A#8 ∧ r.body = g :: rest ∧ r.grouped = true := by
    intro c hg h
    obtain ⟨w, hw, rfl⟩ := Option.map_eq_some_iff.mp h
    exact ⟨rfl, congrArg₂ _ (channelGroup_of_toNat c hg) (ChannelWire.bytes_of_ofBytes hw), rfl⟩
  unfold parseGroup at h
  split at h
  · next hg =>
    obtain ⟨w, hw, rfl⟩ := Option.map_eq_some_iff.mp h
    exact ⟨rfl, congrArg₂ _ (group_of_toNat (by decide) hg) (GeometryWire.bytes_of_ofBytes hw), rfl⟩
  · next hg => exact hchannel 0 hg h
  · next hg => exact hchannel 1 hg h
  · next hg => exact hchannel 2 hg h
  · next hg => exact hchannel 3 hg h
  · next hg => exact hchannel 4 hg h
  · next hg => exact hchannel 5 hg h
  · next hg => exact hchannel 6 hg h
  · next hg => exact hchannel 7 hg h
  · next hg =>
    obtain ⟨w, hw, rfl⟩ := Option.map_eq_some_iff.mp h
    exact ⟨rfl, congrArg₂ _ (group_of_toNat (by decide) hg) (ControlWire.bytes_of_ofBytes hw), rfl⟩
  · next hg =>
    obtain ⟨w, hw, rfl⟩ := Option.map_eq_some_iff.mp h
    exact ⟨rfl, congrArg₂ _ (group_of_toNat (by decide) hg) (legGroupBytes_of_ofBytes hw), rfl⟩
  · next hg =>
    obtain ⟨w, hw, rfl⟩ := Option.map_eq_some_iff.mp h
    exact ⟨rfl, congrArg₂ _ (group_of_toNat (by decide) hg) (ScanWire.bytes_of_ofBytes hw), rfl⟩
  · next hg =>
    obtain ⟨w, hw, rfl⟩ := Option.map_eq_some_iff.mp h
    exact ⟨rfl, congrArg₂ _ (group_of_toNat (by decide) hg) (ConveyorWire.bytes_of_ofBytes hw), rfl⟩
  · next hg =>
    obtain ⟨w, hw, rfl⟩ := Option.map_eq_some_iff.mp h
    exact ⟨rfl, congrArg₂ _ (group_of_toNat (by decide) hg) (TruckWire.bytes_of_ofBytes hw), rfl⟩
  · next hg =>
    obtain ⟨w, hw, rfl⟩ := Option.map_eq_some_iff.mp h
    exact ⟨rfl, congrArg₂ _ (group_of_toNat (by decide) hg) (LimitsWire.bytes_of_ofBytes hw), rfl⟩
  · next hg =>
    obtain ⟨w, hw, rfl⟩ := Option.map_eq_some_iff.mp h
    exact ⟨rfl, congrArg₂ _ (group_of_toNat (by decide) hg) (noticeBytes_of_ofBytes hw), rfl⟩
  · next hg =>
    split at h
    · cases h
      exact ⟨rfl, congrArg₂ _ (group_of_toNat (by decide) hg) rfl, rfl⟩
    · cases h
  · cases h
    exact ⟨rfl, rfl, decide_eq_true (by grind)⟩

/-- A request read from a kind and a body is written back as them. -/
theorem parseRequest_some {k : Byte} {l : List Byte} {r : Request} (h : parseRequest k l = some r) :
    r.kind = k ∧ r.body = l ∧ r.grouped = true := by
  have hkind : ∀ n : Nat, n < 256 → k.toNat = n → BitVec.ofNat 8 n = k := fun n hn hk => group_of_toNat hn hk
  have h0 : ∀ {q : Request}, parse0 q l = some r → q.kind = k → q.body = [] → q.grouped = true →
      r.kind = k ∧ r.body = l ∧ r.grouped = true := by
    intro q h hk hb hg
    obtain ⟨rfl, rfl⟩ := parse0_some h
    exact ⟨hk, hb, hg⟩
  have h1 : ∀ {q : Byte → Request}, parse1 q l = some r → (∀ a, (q a).kind = k) → (∀ a, (q a).body = [a]) →
      (∀ a, (q a).grouped = true) → r.kind = k ∧ r.body = l ∧ r.grouped = true := by
    intro q h hk hb hg
    obtain ⟨a, rfl, rfl⟩ := parse1_some h
    exact ⟨hk a, hb a, hg a⟩
  have h16 : ∀ {q : BitVec 16 → Request}, parse16 q l = some r → (∀ x, (q x).kind = k) →
      (∀ x, (q x).body = bytes16 x) → (∀ x, (q x).grouped = true) →
      r.kind = k ∧ r.body = l ∧ r.grouped = true := by
    intro q h hk hb hg
    obtain ⟨x, rfl, rfl⟩ := parse16_some h
    exact ⟨hk x, hb x, hg x⟩
  have h24 : ∀ {q : BitVec 24 → Request}, parse24 q l = some r → (∀ x, (q x).kind = k) →
      (∀ x, (q x).body = bytes24 x) → (∀ x, (q x).grouped = true) →
      r.kind = k ∧ r.body = l ∧ r.grouped = true := by
    intro q h hk hb hg
    obtain ⟨x, rfl, rfl⟩ := parse24_some h
    exact ⟨hk x, hb x, hg x⟩
  unfold parseRequest at h
  split at h
  · next hk => exact h24 h (fun _ => hkind 0x01 (by decide) hk) (fun _ => rfl) (fun _ => rfl)
  · next hk => exact h0 h (hkind 0x10 (by decide) hk) rfl rfl
  · next hk => exact h0 h (hkind 0x11 (by decide) hk) rfl rfl
  · next hk => exact h0 h (hkind 0x12 (by decide) hk) rfl rfl
  · next hk => exact h0 h (hkind 0x13 (by decide) hk) rfl rfl
  · next hk => exact h1 h (fun _ => hkind 0x20 (by decide) hk) (fun _ => rfl) (fun _ => rfl)
  · next hk =>
    obtain ⟨w, hw, rfl⟩ := Option.map_eq_some_iff.mp h
    exact ⟨hkind 0x21 (by decide) hk, SegmentWire.bytes_of_ofBytes hw, rfl⟩
  · next hk => exact h0 h (hkind 0x22 (by decide) hk) rfl rfl
  · next hk => exact h24 h (fun _ => hkind 0x23 (by decide) hk) (fun _ => rfl) (fun _ => rfl)
  · next hk => exact h0 h (hkind 0x24 (by decide) hk) rfl rfl
  · next hk => exact h16 h (fun _ => hkind 0x25 (by decide) hk) (fun _ => rfl) (fun _ => rfl)
  · next hk => exact h24 h (fun _ => hkind 0x26 (by decide) hk) (fun _ => rfl) (fun _ => rfl)
  · next hk =>
    split at h
    · cases h; exact ⟨hkind 0x27 (by decide) hk, by simp [Request.body], rfl⟩
    · cases h
  · next hk =>
    obtain ⟨w, hw, rfl⟩ := Option.map_eq_some_iff.mp h
    exact ⟨hkind 0x30 (by decide) hk, ObstacleWire.bytes_of_ofBytes hw, rfl⟩
  · next hk => exact h1 h (fun _ => hkind 0x31 (by decide) hk) (fun _ => rfl) (fun _ => rfl)
  · next hk => exact h1 h (fun _ => hkind 0x32 (by decide) hk) (fun _ => rfl) (fun _ => rfl)
  · next hk =>
    split at h
    · cases h; exact ⟨hkind 0x41 (by decide) hk, by simp [Request.body], rfl⟩
    · cases h
  · next hk =>
    split at h
    · cases h; exact ⟨hkind 0x50 (by decide) hk, rfl, rfl⟩
    · cases h
  · next hk =>
    split at h
    · cases h; exact ⟨hkind 0x51 (by decide) hk, by simp [Request.body], rfl⟩
    · cases h
  · next hk =>
    split at h
    · cases h; exact ⟨hkind 0x60 (by decide) hk, by simp [Request.body], rfl⟩
    · cases h
  · next hk => exact h16 h (fun _ => hkind 0x61 (by decide) hk) (fun _ => rfl) (fun _ => rfl)
  · next hk => exact h0 h (hkind 0x62 (by decide) hk) rfl rfl
  · next hk => exact h0 h (hkind 0x63 (by decide) hk) rfl rfl
  · next hk => exact h0 h (hkind 0x64 (by decide) hk) rfl rfl
  · next hk => exact h0 h (hkind 0x65 (by decide) hk) rfl rfl
  · next hk => exact h1 h (fun _ => hkind 0x70 (by decide) hk) (fun _ => rfl) (fun _ => rfl)
  · next hk => exact h0 h (hkind 0x71 (by decide) hk) rfl rfl
  · next hk => exact h0 h (hkind 0x72 (by decide) hk) rfl rfl
  · next hk => exact h0 h (hkind 0x78 (by decide) hk) rfl rfl
  · next hk => exact h0 h (hkind 0x79 (by decide) hk) rfl rfl
  · next hk =>
    split at h
    · cases h
    · obtain ⟨h7A, hbody, hgroup⟩ := parseGroup_some h
      exact ⟨h7A.trans (hkind 0x7A (by decide) hk), hbody, hgroup⟩
  · next hk => exact h1 h (fun _ => hkind 0x7B (by decide) hk) (fun _ => rfl) (fun _ => rfl)
  · next hk => exact h0 h (hkind 0x7C (by decide) hk) rfl rfl
  · cases h

/-! ## A request and its row -/

/-- Every request but a Write Setup of no group has a row. -/
theorem Request.row (r : Request) (tag : Byte) (h : ∀ g rest, r ≠ .writeNoGroup g rest) :
    ∃ i : Instr, i.request? = some (tag, r) := by
  cases r with
  | setStation x => exact ⟨.setStation tag x, rfl⟩
  | startScan => exact ⟨.startScan tag, rfl⟩
  | stopScan => exact ⟨.stopScan tag, rfl⟩
  | singleScan => exact ⟨.singleScan tag, rfl⟩
  | readChannels => exact ⟨.readChannels tag, rfl⟩
  | loadSegments n => exact ⟨.loadSegments tag n, rfl⟩
  | segmentRecord w => exact ⟨.segmentRecord tag w, rfl⟩
  | abortTransfer => exact ⟨.abortTransfer tag, rfl⟩
  | cutProgram c => exact ⟨.cutProgram tag c, rfl⟩
  | clearProgram => exact ⟨.clearProgram tag, rfl⟩
  | querySegment id => exact ⟨.querySegment tag id, rfl⟩
  | locateByStation x => exact ⟨.locateByStation tag x, rfl⟩
  | locateBySegment id off => exact ⟨.locateBySegment tag id off, rfl⟩
  | addObstacle o => exact ⟨.addObstacle tag o, rfl⟩
  | removeObstacle id => exact ⟨.removeObstacle tag id, rfl⟩
  | listObstacles n => exact ⟨.listObstacles tag n, rfl⟩
  | setTrim p a b => exact ⟨.setTrim tag p a b, rfl⟩
  | setLegMode leg mode => exact ⟨.setLegMode tag leg mode, rfl⟩
  | jogLeg leg dir p d => exact ⟨.jogLeg tag leg dir p d, rfl⟩
  | setBeltMode mode p => exact ⟨.setBeltMode tag mode p, rfl⟩
  | setTruckTarget l => exact ⟨.setTruckTarget tag l, rfl⟩
  | truckDone => exact ⟨.truckDone tag, rfl⟩
  | takeTruckRecord => exact ⟨.takeTruckRecord tag, rfl⟩
  | clearTotals => exact ⟨.clearTotals tag, rfl⟩
  | readTotals => exact ⟨.readTotals tag, rfl⟩
  | releaseHold k => exact ⟨.releaseHold tag k, rfl⟩
  | readStatus => exact ⟨.readStatus tag, rfl⟩
  | peekStatus => exact ⟨.peekStatus tag, rfl⟩
  | identify => exact ⟨.identify tag, rfl⟩
  | linkReset => exact ⟨.linkReset tag, rfl⟩
  | writeGeometry g => exact ⟨.writeSetupGeometry tag g, rfl⟩
  | writeChannel c g => exact ⟨.writeSetupChannel tag c g, rfl⟩
  | writeControl g => exact ⟨.writeSetupControl tag g, rfl⟩
  | writeLeg g => exact ⟨.writeSetupLeg tag g, rfl⟩
  | writeScan g => exact ⟨.writeSetupScan tag g, rfl⟩
  | writeConveyor g => exact ⟨.writeSetupConveyor tag g, rfl⟩
  | writeTruck g => exact ⟨.writeSetupTruck tag g, rfl⟩
  | writeLimits g => exact ⟨.writeSetupLimits tag g, rfl⟩
  | writeNotice g => exact ⟨.writeSetupNotice tag g, rfl⟩
  | writeLink b => exact ⟨.writeSetupLink tag b, rfl⟩
  | writeNoGroup g rest => exact absurd rfl (h g rest)
  | readSetup g => exact ⟨.readSetup tag g, rfl⟩
  | storeSetup => exact ⟨.storeSetup tag, rfl⟩

/-- A row carries no Write Setup of no group. -/
theorem Instr.request_grouped {i : Instr} {tag : Byte} {r : Request} (h : i.request? = some (tag, r)) :
    r.grouped = true := by
  cases i <;> cases h <;> rfl

/-- The bodies of the requests are shorter than the longest frame (R171). -/
theorem Instr.request_body_length {i : Instr} {tag : Byte} {r : Request} (h : i.request? = some (tag, r)) :
    r.body.length ≤ 21 := by
  cases i <;> cases h <;> exact Nat.le_of_ble_eq_true rfl

end Sys2Proof

namespace Sys2Proof.Machine

open Sys2Proof

/-- Settles O10: each field is the bytes of its value, and a Write Setup row carries its group's number. -/
theorem requestsReadBack : Obligations.RequestsReadBack := by
  unfold Obligations.RequestsReadBack
  intro i tag r h
  have hg := Instr.request_grouped h
  exact ⟨lengthOk_body r hg, parseRequest_body r hg⟩

/-! ## A frame, byte by byte -/

section
variable {s : State}

theorem setRx_setRx (s : State) (q r : Receiver) : setRx (setRx s q) r = setRx s r := rfl

theorem setRx_self (h : s.link.rx = .hunt) : setRx s .hunt = s := by
  unfold setRx
  rw [← h]
  rfl

/-- The body bytes that follow those taken bring the receiver to the check (R172). -/
theorem feed_body (kind tag : Byte) (got rest : List Byte) (l : List Byte) :
    feed (setRx s (afterBody (got.length + rest.length) kind tag got)) (rest ++ l) =
      feed (setRx s (.check kind tag (got ++ rest) none)) l := by
  induction rest generalizing got with
  | nil => simp [afterBody]
  | cons b rest ih =>
    have hmore : afterBody (got.length + (b :: rest).length) kind tag got =
        .body (got.length + (b :: rest).length) kind tag got := by
      unfold afterBody
      rw [if_neg (by simp)]
    have hlength : got.length + (b :: rest).length = (got ++ [b]).length + rest.length := by
      simp only [List.length_append, List.length_cons, List.length_nil]; omega
    have hnext := ih (got ++ [b])
    rw [← hlength] at hnext
    rw [hmore, List.append_cons got b rest, ← hnext]
    rfl

/-- The bytes of a frame that HUNT finds whole are a good frame (R171, R172). -/
theorem feed_frameBytes (kind tag : Byte) (body : List Byte) (hr : s.link.rx = .hunt) (hl : body.length ≤ 240) :
    feed s (frameBytes kind tag body) = frameGood s kind tag body := by
  have hlen : (BitVec.ofNat 8 body.length).toNat = body.length := by
    simp only [BitVec.toNat_ofNat]; omega
  have hstart : takeByte s 0xA5#8 = setRx s .length := by
    unfold takeByte
    rw [hr]
    rfl
  have hlength : takeByte (setRx s .length) (BitVec.ofNat 8 body.length) = setRx s (.kind body.length) := by
    change (if 240 < (BitVec.ofNat 8 body.length).toNat then discardLength _
      else setRx (setRx s .length) (.kind (BitVec.ofNat 8 body.length).toNat)) = _
    rw [hlen, if_neg (by omega), setRx_setRx]
  have hbody := feed_body (s := s) kind tag [] body (bytes16 (crc16 (checkedBytes kind tag body)))
  have hcheck : u16 (byteOf (crc16 (checkedBytes kind tag body)) 0) (byteOf (crc16 (checkedBytes kind tag body)) 1) =
      crc16 (checkedBytes kind tag body) := u16_bytes _
  calc feed s (frameBytes kind tag body)
      = feed (takeByte (takeByte s 0xA5#8) (BitVec.ofNat 8 body.length))
          (kind :: tag :: (body ++ bytes16 (crc16 (checkedBytes kind tag body)))) := rfl
    _ = feed (setRx s (afterBody (([] : List Byte).length + body.length) kind tag []))
          (body ++ bytes16 (crc16 (checkedBytes kind tag body))) := by
        rw [hstart, hlength, List.length_nil, Nat.zero_add]
        rfl
    _ = checkFrame (setRx s (.check kind tag body (some (byteOf (crc16 (checkedBytes kind tag body)) 0)))) kind tag body
          (byteOf (crc16 (checkedBytes kind tag body)) 0) (byteOf (crc16 (checkedBytes kind tag body)) 1) := by
        rw [hbody]
        rfl
    _ = frameGood (setRx s (.check kind tag body (some (byteOf (crc16 (checkedBytes kind tag body)) 0)))) kind tag
          body := if_pos hcheck
    _ = frameGood s kind tag body := by
        cases hs : s.link.slot <;> simp only [frameGood, countGood, setCounters, setRx, State.setLink_link,
          State.setLink_setLink, hs]

end

end Sys2Proof.Machine
end

section
/-! The receiver and the transmitter: what a good frame comes to, and each step of both. -/

namespace Sys2Proof.Machine

open Sys2Proof

section
variable {s : State} {k tag : Byte} {body : List Byte} {r : Request} {i : Instr}

/-! ## A good frame -/

/-- A whole frame of a request is served as that request (R174). -/
theorem dispatch_request (s : State) (tag : Byte) (hg : r.grouped = true) :
    dispatch s r.kind tag r.body = serveRequest s tag r := by
  unfold dispatch wholeRequest
  rw [lengthOk_body r hg, if_pos rfl, parseRequest_body r hg]
  cases hscreen : screenKind s r.kind with
  | none => rfl
  | some a =>
    simp only [serveRequest, hscreen]

/-- A reply to a frame just counted, at an empty slot. -/
theorem placeReply_countGood (s : State) (q : Reply) :
    placeReply (countGood s) q = { s with link := s.link.answered q } := by
  rw [placeReply_eq]
  rfl

/-- A row whose frame finds HUNT and an empty slot is served. -/
theorem exec_row_hunt (hi : i.request? = some (tag, r)) (hs : Listening s) :
    exec i s = .next (serveRequest (countGood s) tag r) := by
  rw [exec_of_request hi]
  unfold arrive arriveFrame
  simp only [hs.1, hs.2.1, hs.2.2, if_false]

/-- A row that the screen refuses (R174). -/
theorem exec_screened {a : Answer} (hi : i.request? = some (tag, r)) (hs : Listening s)
    (hscreen : screenKind s r.kind = some a) :
    exec i s = .next { s with link := s.link.answered (replyTo tag r a) } := by
  have hscreen' : screenKind (countGood s) r.kind = some a := hscreen
  rw [exec_row_hunt hi hs]
  unfold serveRequest
  rw [hscreen']
  exact congrArg Host.Outcome.next (placeReply_countGood s _)

theorem screenKind_unknown (h : isRequestKind k = false) : screenKind s k = some (refuse .unknown .noDetail) := by
  simp [screenKind, h]

theorem screenedBusy_iff (s : State) (k : Byte) :
    ScreenedBusy s k ↔ (s.store.storing.isSome && !passesStore k) = true ∨
      (s.program.transfer.isSome && !passesTransfer k) = true := by
  simp only [ScreenedBusy, passesStore, passesTransfer, Bool.and_eq_true, Bool.not_eq_true', Bool.or_eq_false_iff,
    beq_eq_false_iff_ne, List.mem_cons, List.not_mem_nil, or_false, not_or, ne_eq, and_assoc]

/-- The screen answers BUSY to a request kind in the states that say so (R174). -/
theorem screenKind_busy (hk : isRequestKind k = true) (h : ScreenedBusy s k) :
    screenKind s k = some (refuse .busy .noDetail) := by
  unfold screenKind
  rw [hk]
  rcases (screenedBusy_iff s k).mp h with h | h <;> simp [h]

theorem screenKind_passed (hk : isRequestKind k = true) (h : ¬ScreenedBusy s k) : screenKind s k = none := by
  obtain ⟨hstore, htransfer⟩ := not_or.mp (mt (screenedBusy_iff s k).mpr h)
  simp [screenKind, hk, hstore, htransfer]

/-- A request of a kind that neither a store nor a transfer phase lets through. -/
theorem exec_busy (hi : i.request? = some (tag, r)) (hs : Listening s) (hstore : passesStore r.kind = false)
    (htransfer : passesTransfer r.kind = false) (h : ¬Unscreened s) :
    exec i s = .next { s with link := s.link.answered (replyTo tag r (refuse .busy .noDetail)) } := by
  refine exec_screened hi hs (screenKind_busy (isRequestKind_kind r) ((screenedBusy_iff s r.kind).mpr ?_))
  rw [hstore, htransfer]
  by_contra hc
  exact h (by simpa [Option.isSome_iff_ne_none] using hc)

theorem isRequestKind_iff (k : Byte) : isRequestKind k = true ↔ k.toNat ∈ requestKinds := by
  simp [isRequestKind]

theorem isRequestKind_false_iff (k : Byte) : isRequestKind k = false ↔ k.toNat ∉ requestKinds := by
  rw [← isRequestKind_iff, Bool.not_eq_true]

/-- A body that no request of its kind has is not read (R174, check 4). -/
theorem wholeRequest_none (hrows : ∀ (i : Instr) (r : Request), i.request? = some (tag, r) → r.kind = k → r.body ≠ body)
    (hgroup : ∀ g rest, k = 0x7A#8 → body = g :: rest → g.toNat ≤ 16) : wholeRequest k body = none := by
  unfold wholeRequest
  split
  · cases hp : parseRequest k body with
    | none => rfl
    | some r =>
      obtain ⟨hk, hb, hg⟩ := parseRequest_some hp
      by_cases hno : ∃ g rest, r = .writeNoGroup g rest
      · obtain ⟨g, rest, rfl⟩ := hno
        have h16 : 16 < g.toNat := of_decide_eq_true hg
        exact absurd (hgroup g rest hk.symm hb.symm) (by omega)
      · obtain ⟨i, hi⟩ := r.row tag fun g rest he => hno ⟨g, rest, he⟩
        exact absurd hb (hrows i r hi hk)
  · rfl

/-- A Write Setup of no group is refused as such (R181). -/
theorem dispatch_noGroup {g : Byte} {rest : List Byte} (hu : Unscreened s)
    (h16 : 16 < g.toNat) :
    dispatch (countGood s) 0x7A#8 tag (g :: rest) =
      { s with link := s.link.answered { kind := 0x7A#8, tag := tag, answer := refuse .badField .group } } := by
  have hgrouped : (Request.writeNoGroup g rest).grouped = true := decide_eq_true h16
  have hscreen : screenKind (countGood s) (Request.writeNoGroup g rest).kind = none := screenKind_unscreened _ _ hu
  calc dispatch (countGood s) 0x7A#8 tag (g :: rest)
      = serveRequest (countGood s) tag (.writeNoGroup g rest) := dispatch_request _ _ hgrouped
    _ = respond (Request.writeNoGroup g rest).kind tag (takeRequest (.writeNoGroup g rest)) (countGood s) := by
        unfold serveRequest
        rw [hscreen]
    _ = _ := by
        rw [respond_quiet _ _ _ _ rfl]
        rfl

/-- A good frame found in HUNT with an empty slot: its row, or the screen's answer, or the group's refusal. -/
theorem dispatched (hs : Listening s) (k tag : Byte) (body : List Byte) :
    Dispatched s k tag body (.next (dispatch (countGood s) k tag body)) := by
  obtain ⟨hphase, hrx, hslot⟩ := hs
  refine ⟨fun i r hi hk hb => ?_, fun hk => ?_, fun hk hbusy => ?_, fun g rest hk hb h16 hu => ?_,
    fun hk hbusy hrows hgroup => ?_⟩
  · subst hk hb
    rw [dispatch_request _ _ (Instr.request_grouped hi), exec_row_hunt hi ⟨hphase, hrx, hslot⟩]
  · have hscreen : screenKind (countGood s) k = _ := screenKind_unknown ((isRequestKind_false_iff k).mpr hk)
    rw [dispatch, hscreen]
    exact congrArg Host.Outcome.next (placeReply_countGood s _)
  · have hscreen : screenKind (countGood s) k = _ := screenKind_busy ((isRequestKind_iff k).mpr hk) hbusy
    rw [dispatch, hscreen]
    exact congrArg Host.Outcome.next (placeReply_countGood s _)
  · subst hk hb
    rw [dispatch_noGroup hu h16]
  · have hscreen : screenKind (countGood s) k = _ := screenKind_passed ((isRequestKind_iff k).mpr hk) hbusy
    rw [dispatch, hscreen]
    simp only [wholeRequest_none hrows hgroup]
    exact congrArg Host.Outcome.next (placeReply_countGood s _)

/-- A good frame with an empty slot. -/
theorem frameGood_empty (h : s.link.slot = none) (k tag : Byte) (body : List Byte) :
    frameGood s k tag body = dispatch (countGood (setRx s .hunt)) k tag body := by
  have h' : (countGood s).link.slot = none := h
  simp only [frameGood, h']
  rfl

/-- A good frame behind a full slot is held. -/
theorem frameGood_full (h : s.link.slot ≠ none) (k tag : Byte) (body : List Byte) :
    frameGood s k tag body = setRx (countGood s) (.held k tag body) := by
  obtain ⟨q, hq⟩ := Option.ne_none_iff_exists'.mp h
  have h' : (countGood s).link.slot = some q := hq
  simp only [frameGood, h']

end

/-- Settles O11: outside HUNT a row is defined by its bytes, and the bytes of a frame that HUNT finds whole bring
the receiver through the frame to the same dispatch. -/
theorem requestRowIsItsFrame : Obligations.RequestRowIsItsFrame := by
  unfold Obligations.RequestRowIsItsFrame
  intro i tag r s hi hphase
  rw [exec_of_request hi]
  unfold arrive arriveFrame
  rw [if_neg hphase]
  split
  · next hrx =>
    have hlength := Instr.request_body_length hi
    rw [feed_frameBytes _ _ _ hrx (by omega)]
    split
    · next hslot =>
      rw [frameGood_empty hslot, setRx_self hrx, dispatch_request _ _ (Instr.request_grouped hi)]
    · next q hslot =>
      rw [frameGood_full (by rw [hslot]; exact nofun)]
  · rfl

/-! ## The receiver -/

theorem exec_byteReceived {s : State} (h : s.store.phase ≠ .load) (b : Byte) :
    exec (.byteReceived b false) s = .next (takeByte s b) := by
  simp only [exec, execByteReceived, h, if_false, Bool.false_eq_true]

theorem exec_badByteReceived {s : State} (h : s.store.phase ≠ .load) (b : Byte) :
    exec (.byteReceived b true) s = .next (takeBadByte s) := by
  simp only [exec, execByteReceived, h, if_false, if_true]

/-- Settles O55: the receiver's states one by one, and a good frame by what it is dispatched as. -/
theorem receiverSteps : Obligations.ReceiverSteps := by
  unfold Obligations.ReceiverSteps
  intro b s hphase
  rw [exec_byteReceived hphase, exec_badByteReceived hphase]
  refine ⟨fun hrx => ?_, fun hrx hb => ?_, fun hrx hb => ?_, fun len hrx => ?_, fun len k hrx => ?_,
    fun len k tg got hrx => ?_, fun k tg body hrx => ?_, fun k tg body low hrx hcheck => ⟨fun hslot => ?_, fun hslot => ?_⟩,
    fun k tg body hrx => ⟨?_, ?_, ?_⟩, fun k tg body low hrx hcheck => ?_, fun hhunt hheld => ?_,
    fun tag kind body hs hkind => ?_⟩
  · simp only [takeByte, hrx]
    split
    · rfl
    · rw [← hrx]
  · simp only [takeByte, hrx, if_neg (show ¬240 < b.toNat by omega)]
    rfl
  · simp only [takeByte, hrx, if_pos hb]
    rfl
  · simp only [takeByte, hrx]
    rfl
  · have hafter : afterBody len k b [] = if len = 0 then .check k b [] none else .body len k b [] := by
      simp [afterBody]
    simp only [takeByte, hrx, hafter]
    rfl
  · have hafter : afterBody len k tg (got ++ [b]) =
        if got.length + 1 < len then .body len k tg (got ++ [b]) else .check k tg (got ++ [b]) none := by
      by_cases h : got.length + 1 < len
      · rw [if_pos h, afterBody, if_neg (by simp; omega)]
      · rw [if_neg h, afterBody, if_pos (by simp; omega)]
    simp only [takeByte, hrx, hafter]
    rfl
  · simp only [takeByte, hrx]
    rfl
  · simp only [takeByte, hrx, checkFrame, if_pos hcheck]
    rw [frameGood_empty hslot]
    exact dispatched (s := { s with link := { s.link with rx := .hunt } }) ⟨hphase, rfl, hslot⟩ k tg body
  · simp only [takeByte, hrx, checkFrame, if_pos hcheck]
    rw [frameGood_full hslot]
    rfl
  · simp only [takeByte, hrx]
    rw [← hrx]
    split <;> rfl
  · simp only [takeBadByte, hrx]
  · simp only [exec, execSilenceTimerExpiry, hrx]
  · simp only [takeByte, hrx, checkFrame, if_neg hcheck]
    rfl
  · constructor
    · unfold takeBadByte
      split
      · next h => exact absurd h hhunt
      · next h => exact absurd h (hheld _ _ _)
      · rfl
    · have hsilence : exec .silenceTimerExpiry s = .next (discardSilence s) := by
        simp only [exec, execSilenceTimerExpiry]
      rw [hsilence]
      rfl
  · have hrow : exec (.unknownRequest tag kind body) s = .next (dispatch (countGood s) kind tag body) := by
      simp only [exec, execUnknownRequest, arriveRaw, arriveFrame, hphase, hs.2.1, hs.2.2, if_false]
    rw [hrow]
    exact (dispatched hs kind tag body).unknown hkind

/-! ## The transmitter -/

theorem exec_transmitterIdle {s : State} (h : s.link.tx ≠ .idle) :
    exec .transmitterIdle s = .next (freeLine s) := by
  simp only [exec, execTransmitterIdle]

/-- An IDLE line takes the reply in the slot. -/
theorem arbitrate_reply {s : State} {r : Reply} (hslot : s.link.slot = some r) :
    arbitrate (s.setLink { s.link with tx := .idle }) =
      s.setLink { s.link with tx := .reply r, slot := none } := by
  simp only [arbitrate, State.setLink_link, hslot]
  rfl

/-- The reply in the slot goes on the line, and a HELD request is dispatched behind it (R173, R176). -/
theorem freeLine_reply {s : State} {r : Reply} (hslot : s.link.slot = some r) :
    freeLine s = dispatchHeld (s.setLink { s.link with tx := .reply r, slot := none }) := by
  unfold freeLine
  simp only
  rw [arbitrate_reply hslot]
  split
  · rfl
  · next h =>
    rw [hslot] at h
    cases h

/-- With no reply an IDLE line takes the most urgent notice. -/
theorem freeLine_noReply {s : State} (hslot : s.link.slot = none) :
    freeLine s = offerNotice (s.setLink { s.link with tx := .idle }) := by
  simp only [freeLine, hslot, arbitrate, State.setLink_link]

/-- Settles O56: the reply goes first, a HELD request is then a good frame in HUNT with an empty slot, and with
no reply the search finds the notice that goes before the others. -/
theorem transmitterTakesNext : Obligations.TransmitterTakesNext := by
  unfold Obligations.TransmitterTakesNext
  intro s hbusy
  rw [exec_transmitterIdle hbusy]
  refine ⟨fun r hslot hheld => ?_, fun r k tag body n hphase hslot hheld hgood => ?_,
    fun c n hslot hpend hlevel hfirst => ?_, fun hslot hnone => ?_⟩
  · rw [freeLine_reply hslot]
    unfold dispatchHeld
    split
    · next h => exact absurd h (hheld _ _ _)
    · rfl
  · have hcount : dispatchHeld (s.setLink { s.link with tx := .reply r, slot := none }) =
        dispatch (countGood { s with link := { s.link with
          tx := .reply r, slot := none, rx := .hunt, counters := { s.link.counters with good := n } } })
          k tag body := by
      have hwrap : wrap16 n = s.link.counters.good := hgood.symm
      simp only [dispatchHeld, State.setLink_link, hheld, countGood, hwrap]
      rfl
    rw [freeLine_reply hslot, hcount]
    exact dispatched
      (s := { s with link := { s.link with
        tx := .reply r, slot := none, rx := .hunt, counters := { s.link.counters with good := n } } })
      ⟨hphase, rfl, rfl⟩ k tag body
  · have hurgent : mostUrgent (s.setLink { s.link with tx := .idle }) = some c :=
      mostUrgent_of_first
        { listed := NoticeClass.mem_all c
          offered := ⟨by rw [State.setLink_notices, hpend]; rfl, hlevel⟩
          precedes := fun k _ hne ho => hfirst k hne ho.1 ho.2 }
    rw [freeLine_noReply hslot, offerNotice, hurgent]
    simp only [State.setLink_notices, hpend]
    rfl
  · have hurgent : mostUrgent (s.setLink { s.link with tx := .idle }) = none := by
      cases hu : mostUrgent (s.setLink { s.link with tx := .idle }) with
      | none => rfl
      | some c =>
        have hsome := (mostUrgent_eq_some hu).offered.1
        rw [State.setLink_notices, hnone c] at hsome
        cases hsome
    rw [freeLine_noReply hslot, offerNotice, hurgent]
    rfl

end Sys2Proof.Machine
end

section
/-! Positions in a list in order, and bits of a byte: what the status record and the queries report. -/

namespace Sys2Proof.Machine

open Sys2Proof

/-! ## Positions -/

section
variable {segs pre post rest : List Segment} {g : Segment} {x : Nat}

/-- The position at or past the start of g, when the segment after g has not begun (R43). -/
def positionAfter (g : Segment) (post : List Segment) (x : Nat) : Position :=
  if x < g.endStation then .inside g
  else
    match post with
    | [] => .beyond g
    | h :: _ => .gap g h.start

theorem positionFrom_of_past_cons {h : Segment} {t : List Segment} (hx : ¬x < g.endStation) :
    positionFrom g (h :: t) x = if x < h.start then .gap g h.start else positionFrom h t x := by
  simp only [positionFrom, if_neg hx]

theorem positionFrom_eq_positionAfter (g : Segment) (hpost : ∀ h ∈ post, x < h.start) :
    positionFrom g post x = positionAfter g post x := by
  cases post with
  | nil => rfl
  | cons h t =>
    by_cases hx : x < g.endStation
    · simp only [positionFrom, positionAfter, if_pos hx]
    · rw [positionFrom_of_past_cons hx, if_pos (hpost h (by simp))]
      simp only [positionAfter, if_neg hx]

/-- A segment before g in a list in order has ended where g starts. -/
theorem SegmentsOrdered.end_le_start (h : SegmentsOrdered (pre ++ g :: post)) {k : Segment} (hk : k ∈ pre) :
    k.endStation ≤ g.start := ((List.pairwise_append.mp h.2).2.2 k hk g (by simp)).1

theorem SegmentsOrdered.start_lt_end (h : SegmentsOrdered segs) {k : Segment} (hk : k ∈ segs) :
    k.start < k.endStation := by
  have := h.1 k hk
  unfold Segment.endStation
  omega

theorem positionFrom_append {p : Segment} (h : SegmentsOrdered (p :: (pre ++ g :: post))) (hg : g.start ≤ x)
    (hpost : ∀ k ∈ post, x < k.start) : positionFrom p (pre ++ g :: post) x = positionAfter g post x := by
  induction pre generalizing p with
  | nil =>
    have hend : p.endStation ≤ g.start := SegmentsOrdered.end_le_start (pre := [p]) h (by simp)
    rw [List.nil_append, positionFrom_of_past_cons (by omega), if_neg (by omega), positionFrom_eq_positionAfter g hpost]
  | cons q pre ih =>
    have hp : p.endStation ≤ g.start := SegmentsOrdered.end_le_start (pre := p :: q :: pre) h (by simp)
    have hq : q.endStation ≤ g.start := SegmentsOrdered.end_le_start (pre := p :: q :: pre) h (by simp)
    have hlt : q.start < q.endStation := h.start_lt_end (by simp)
    rw [List.cons_append, positionFrom_of_past_cons (by omega), if_neg (by omega)]
    exact ih h.tail

/-- The position named by the last segment that has begun (R43). -/
theorem positionIn_eq_positionAfter (h : SegmentsOrdered (pre ++ g :: post)) (hg : g.start ≤ x)
    (hpost : ∀ k ∈ post, x < k.start) : positionIn (pre ++ g :: post) x = positionAfter g post x := by
  cases pre with
  | nil =>
    unfold positionIn
    simp only [List.nil_append]
    rw [if_neg (by omega), positionFrom_eq_positionAfter g hpost]
  | cons p pre =>
    have hp : p.endStation ≤ g.start := SegmentsOrdered.end_le_start (pre := p :: pre) h (by simp)
    have hlt : p.start < p.endStation := h.start_lt_end (by simp)
    unfold positionIn
    simp only [List.cons_append]
    rw [if_neg (by omega)]
    exact positionFrom_append h hg hpost

/-- Before every segment the list names none (R43). -/
theorem positionIn_of_before (hne : segs ≠ []) (h : ∀ k ∈ segs, x < k.start) : positionIn segs x = .before := by
  cases segs with
  | nil => exact absurd rfl hne
  | cons g rest =>
    unfold positionIn
    exact if_pos (h g (by simp))

/-- Either no segment has begun, or one is the last that has. -/
theorem started_split (h : SegmentsOrdered segs) (x : Nat) :
    (∀ k ∈ segs, x < k.start) ∨
      ∃ pre g post, segs = pre ++ g :: post ∧ g.start ≤ x ∧ ∀ k ∈ post, x < k.start := by
  induction segs with
  | nil => exact .inl nofun
  | cons g rest ih =>
    rcases ih h.tail with hall | ⟨pre, k, post, rfl, hk, hpost⟩
    · by_cases hg : g.start ≤ x
      · exact .inr ⟨[], g, rest, rfl, hg, hall⟩
      · refine .inl fun k hk => ?_
        rcases List.mem_cons.mp hk with rfl | hk
        · omega
        · exact hall k hk
    · exact .inr ⟨g :: pre, k, post, rfl, hk, hpost⟩

theorem behindCount_eq (segs : List Segment) (x : Nat) : behindCount segs x = behindAt segs x := by
  unfold behindCount behindAt
  rw [List.countP_eq_length_filter]
  rfl

theorem countP_of_forall {α : Type} {p : α → Bool} {l : List α} (h : ∀ a ∈ l, p a = true) : l.countP p = l.length :=
  List.countP_eq_length.mpr h

theorem countP_of_forall_not {α : Type} {p : α → Bool} {l : List α} (h : ∀ a ∈ l, p a = false) : l.countP p = 0 :=
  List.countP_eq_zero.mpr (by simpa using h)

theorem remainingAt_eq_countP (segs : List Segment) (x : Nat) :
    remainingAt segs x = segs.countP fun g => decide (x < g.endStation) := by
  unfold remainingAt
  rw [List.countP_eq_length_filter]
  rfl

/-- The current segment counts as one more remaining. -/
def Position.currentCount : Position → Nat
  | .inside _ => 1
  | _ => 0

theorem remainingCount_eq_ahead (segs : List Segment) (x : Nat) :
    remainingCount segs x = aheadCount segs x + (positionIn segs x).currentCount := by
  unfold remainingCount
  cases positionIn segs x <;> rfl

/-- The segments ahead with the current one are those that end above the station (R43; log 45). -/
theorem remainingCount_eq (h : SegmentsOrdered segs) (x : Nat) : remainingCount segs x = remainingAt segs x := by
  rw [remainingAt_eq_countP, remainingCount_eq_ahead]
  unfold aheadCount
  rcases started_split h x with hall | ⟨pre, g, post, rfl, hg, hpost⟩
  · have hahead : segs.countP (fun g => decide (x < g.start)) = segs.length :=
      countP_of_forall fun k hk => decide_eq_true (hall k hk)
    have hends : segs.countP (fun g => decide (x < g.endStation)) = segs.length :=
      countP_of_forall fun k hk => decide_eq_true (lt_trans (hall k hk) (h.start_lt_end hk))
    have hnot : (positionIn segs x).currentCount = 0 := by
      cases segs with
      | nil => rfl
      | cons g rest =>
        rw [positionIn_of_before (by simp) hall]
        rfl
    omega
  · have hpre : ∀ k ∈ pre, k.start < k.endStation ∧ k.endStation ≤ x := fun k hk =>
      ⟨h.start_lt_end (by simp [hk]), le_trans (h.end_le_start hk) hg⟩
    have hpreAhead : pre.countP (fun g => decide (x < g.start)) = 0 :=
      countP_of_forall_not fun k hk => decide_eq_false (by have := hpre k hk; omega)
    have hpreEnds : pre.countP (fun g => decide (x < g.endStation)) = 0 :=
      countP_of_forall_not fun k hk => decide_eq_false (by have := hpre k hk; omega)
    have hpostAhead : post.countP (fun g => decide (x < g.start)) = post.length :=
      countP_of_forall fun k hk => decide_eq_true (hpost k hk)
    have hpostEnds : post.countP (fun g => decide (x < g.endStation)) = post.length :=
      countP_of_forall fun k hk => decide_eq_true (lt_trans (hpost k hk) (h.start_lt_end (by simp [hk])))
    rw [List.countP_append, List.countP_append, List.countP_cons, List.countP_cons, hpreAhead, hpreEnds, hpostAhead,
      hpostEnds, positionIn_eq_positionAfter h hg hpost]
    unfold positionAfter
    by_cases hx : x < g.endStation
    · simp [hx, show ¬x < g.start by omega, Position.currentCount]
    · cases post <;> simp [hx, show ¬x < g.start by omega, Position.currentCount]

/-- The kind of a position (Table 9.2). -/
theorem positionIn_code (h : SegmentsOrdered segs) (x : Nat) : (positionIn segs x).code =
    if segs = [] then 0 else if ∀ g ∈ segs, x < g.start then 1
    else if ∃ g ∈ segs, g.start ≤ x ∧ x < g.start + g.length then 2
    else if ∃ g ∈ segs, x < g.start then 3 else 4 := by
  rcases started_split h x with hall | ⟨pre, g, post, rfl, hg, hpost⟩
  · cases segs with
    | nil => rfl
    | cons g rest =>
      rw [positionIn_of_before (by simp) hall, if_neg (by simp), if_pos hall]
      rfl
  · have hpre : ∀ k ∈ pre, k.start < k.endStation ∧ k.endStation ≤ x := fun k hk =>
      ⟨h.start_lt_end (by simp [hk]), le_trans (h.end_le_start hk) hg⟩
    rw [positionIn_eq_positionAfter h hg hpost, if_neg (by simp),
      if_neg (fun hall => absurd (hall g (by simp)) (by omega))]
    unfold positionAfter
    by_cases hx : x < g.endStation
    · rw [if_pos hx, if_pos ⟨g, by simp, hg, hx⟩]
      rfl
    · have hnone : ¬∃ k ∈ pre ++ g :: post, k.start ≤ x ∧ x < k.start + k.length := by
        rintro ⟨k, hk, hstart, hend⟩
        rcases List.mem_append.mp hk with hk | hk
        · have := (hpre k hk).2
          unfold Segment.endStation at this
          omega
        · rcases List.mem_cons.mp hk with rfl | hk
          · exact hx hend
          · have := hpost k hk
            omega
      rw [if_neg hx, if_neg hnone]
      cases post with
      | nil =>
        rw [if_neg]
        · rfl
        · rintro ⟨k, hk, hlt⟩
          rcases List.mem_append.mp hk with hk | hk
          · have := hpre k hk
            omega
          · rw [List.mem_singleton.mp hk] at hlt
            omega
      | cons k t =>
        rw [if_pos ⟨k, by simp, hpost k (by simp)⟩]
        rfl

theorem positionAfter_segment (g : Segment) (post : List Segment) (x : Nat) :
    (positionAfter g post x).segment = some g := by
  unfold positionAfter
  split
  · rfl
  · cases post <;> rfl

end

theorem ProgramInv.ordered {s : State} (h : ProgramInv s) : SegmentsOrdered s.program.segments := ⟨h.1, h.2.1⟩

/-! ## Bits -/

/-- A number below 2 to the w is the sum of its bits. -/
theorem sum_testBit (n w : Nat) :
    ((List.range w).map fun i => if n.testBit i then 2 ^ i else 0).sum = n % 2 ^ w := by
  induction w with
  | zero => simp [Nat.mod_one]
  | succ w ih =>
    rw [List.range_succ, List.map_append, List.sum_append, ih, Nat.mod_pow_succ]
    rcases Nat.mod_two_eq_zero_or_one (n / 2 ^ w) with h | h <;> simp [Nat.testBit_eq_decide_div_mod_eq, h]

end Sys2Proof.Machine
end

section
/-! The status record, the queries, and the requests and events that one block takes at once. -/

namespace Sys2Proof.Machine

open Sys2Proof

/-! ## The status record -/

/-- A number below 2 to the w from its bits, in the order of a list that names each bit once. -/
theorem sum_bits_eq {α : Type} {l : List α} {code : α → Nat} {w : Nat} (hl : l.map code = List.range w) {n : Nat}
    (hn : n < 2 ^ w) {b : α → Bool} (hb : ∀ a, n.testBit (code a) = b a) :
    (l.map fun a => if b a then 2 ^ code a else 0).sum = n := by
  have h := sum_testBit n w
  rw [Nat.mod_eq_of_lt hn, ← hl, List.map_map] at h
  rw [← h]
  congr 1
  refine List.map_congr_left fun a _ => ?_
  simp only [Function.comp_apply, hb]

theorem presenceBits_eq {holds : PerReason (Option Nat)} {n : Nat} (hn : n < 256)
    (h : ∀ r : HoldReason, n.testBit (holdReasonCode r) = (holds.get r).isSome) : presenceBits holds = n :=
  sum_bits_eq (w := 8) rfl hn h

theorem flagBits_eq {f : PerClass Bool} {n : Nat} (hn : n < 2 ^ 20)
    (h : ∀ c : NoticeClass, n.testBit (classNumber c - 1) = f.get c) : flagBits f = n :=
  sum_bits_eq (code := fun c => classNumber c - 1) (w := 20) rfl hn h

theorem relatch_get (s : State) (c : NoticeClass) : (relatch s).get c =
    match c with
    | .supplyLow => decide (s.supply.state = .low)
    | .stopSense => decide (s.inputs.stopSense.accepted = .active)
    | .housingHigh => s.conveyor.housingHeld
    | .programLow => s.program.lowWater
    | .beltStall => decide (s.conveyor.belt = .stalled)
    | .referenceLost => s.grade.sides.left.refHold || s.grade.sides.right.refHold
    | _ => false := by
  cases c with
  | supplyLow => exact beq_eq_decide ..
  | stopSense => exact beq_eq_decide ..
  | beltStall => exact beq_eq_decide ..
  | _ => rfl

theorem housingLitres_eq {v : Nat} (h : v < 1000000 * 2 ^ 32) : housingLitres v = v / 1000000 := by
  have hfits : litres v < 2 ^ 32 := by
    unfold litres
    omega
  unfold housingLitres
  rw [if_pos hfits]
  rfl

/-- The id that the record carries is that of the last segment that has begun (R43). -/
theorem currentId_eq {s : State} (h : SegmentsOrdered s.program.segments) {id : Nat}
    (hlast : ∀ pre post g, s.program.segments = pre ++ g :: post → g.start ≤ s.travel.station →
      (∀ h ∈ post, s.travel.station < h.start) → id = g.id)
    (hbefore : (∀ g ∈ s.program.segments, s.travel.station < g.start) → id = 0) : currentId s = id := by
  unfold currentId position
  rcases started_split h s.travel.station with hall | ⟨pre, g, post, hs, hg, hpost⟩
  · rw [hbefore hall]
    by_cases hne : s.program.segments = []
    · rw [hne]
      rfl
    · rw [positionIn_of_before hne hall]
      rfl
  · rw [hlast pre post g hs hg hpost]
    rw [hs] at h ⊢
    rw [positionIn_eq_positionAfter h hg hpost, positionAfter_segment]

theorem statusFields_size (s : State) : ((statusFields s).map Field.size).sum = 35 := by
  have h : (statusFields s).map Field.size =
      [1, 1, 1, 3, 2, 1, 2, 1, 1, 1, 1, 1, 1, 1, 2, 4, 2, 1, 2, 2, 1, 3] := rfl
  rw [h]
  rfl

/-- Settles O31: the record is read off the state field by field, and only a lasting condition keeps its flag. -/
theorem readStatusClearsFlags : Obligations.ReadStatusClearsFlags := by
  unfold Obligations.ReadStatusClearsFlags
  intro tag s hs
  refine ⟨_, exec_readStatus_eq s tag hs, rfl, relatch_get s, statusFields_size s, ?_⟩
  intro segs x id kind present ramp flags truck hinv hsegs hx hfits hkind hlast hbefore hpresent hpresentLt hramp
    hflags hflagsLt htruck
  subst hsegs hx hkind hramp
  have hnumber : s.conveyor.truckNumber = truck := by
    rw [htruck]
    unfold Conveyor.truckNumber
    cases s.conveyor.current <;> rfl
  have hordered := hinv.ordered
  have hcode : (position s).code = _ := positionIn_code hordered s.travel.station
  have hdir : directionCode s.travel = if s.travel.standstill then 2 else if s.travel.dir = .forward then 0 else 1 := by
    unfold directionCode
    cases s.travel.dir <;> rfl
  unfold statusFields
  simp only [reasonFields, hcode, hdir, currentId_eq hordered hlast hbefore, remainingCount_eq hordered,
    behindCount_eq, hnumber, housingLitres_eq hfits, presenceBits_eq hpresentLt hpresent,
    flagBits_eq hflagsLt hflags, activityBits]
  rfl

/-! ## The queries -/

/-- Locate answers with the segment that the position names (R61). -/
theorem takeLocateByStation_of_segment {s : State} {x : BitVec 24} {g : Segment}
    (h : (positionIn s.program.segments x.toNat).segment = some g) :
    takeLocateByStation x s = (s, answer .done
      [field2 g.id, field3 (x.toNat - g.start), u8 (positionIn s.program.segments x.toNat).code]) := by
  unfold takeLocateByStation
  simp only
  generalize positionIn s.program.segments x.toNat = p at h ⊢
  cases p with
  | empty => cases h
  | before => cases h
  | inside k => cases h; rfl
  | gap k next => cases h; rfl
  | beyond k => cases h; rfl

/-- The kind of a position past the start of a segment (Table 9.2). -/
theorem positionAfter_code (g : Segment) (post : List Segment) (x : Nat) : (positionAfter g post x).code =
    if x < g.start + g.length then 2 else if post = [] then 4 else 3 := by
  by_cases hlt : x < g.endStation
  · rw [positionAfter.eq_def, if_pos hlt]
    exact (if_pos hlt).symm
  · rw [positionAfter.eq_def, if_neg hlt]
    refine Eq.trans ?_ (if_neg hlt).symm
    cases post <;> rfl

/-- Settles O28: each query answers with the fields of its record, and no owner's state is touched. -/
theorem queriesOnlyReply : Obligations.QueriesOnlyReply := by
  unfold Obligations.QueriesOnlyReply
  intro tag s hs
  have hposition : ∀ {x : BitVec 24} {fs : List Field}, (takeLocateByStation x (countGood s)) =
      (countGood s, answer .done fs) → exec (.locateByStation tag x) s =
        .next { s with link := s.link.answered (replyTo tag (.locateByStation x) (answer .done fs)) } :=
    fun h => exec_refused rfl hs h
  refine ⟨⟨_, exec_refused rfl hs rfl, rfl⟩, fun id g hg => ?query, fun x g hx => ?inside, fun x hx => ?empty,
    fun x pre post g kind hinv hsegs hg hpost hkind => ?started, fun x hinv hne hx => ?before,
    fun id off g hg hoff => ?offset, fun id off hnone => ?unknown, fun id off g hg hoff => ?past,
    fun i => exec_refused rfl hs rfl, fun n a hfits hn ha hafits => ?totals, exec_refused rfl hs rfl⟩
  case query =>
    refine ⟨_, _, fun hinv => effectiveSlope_is s hinv s.setup.control.defaultSlope g, ?_⟩
    have hfind : findSegment (countGood s) id.toNat = some g := hg
    refine exec_refused rfl hs ?_
    simp only [takeRequest, takeQuerySegment, hfind]
    rfl
  case inside =>
    refine hposition ?_
    have hx' : positionIn (countGood s).program.segments x.toNat = .inside g := hx
    simp only [takeLocateByStation, hx']
    rfl
  case empty =>
    refine exec_refused rfl hs ?_
    have hx' : positionIn (countGood s).program.segments x.toNat = .empty := by
      change positionIn s.program.segments x.toNat = .empty
      rw [hx]
      rfl
    simp only [takeRequest, takeLocateByStation, hx']
  case started =>
    have hordered := hinv.ordered
    rw [hsegs] at hordered
    have hx' : positionIn (countGood s).program.segments x.toNat = positionAfter g post x.toNat := by
      change positionIn s.program.segments x.toNat = _
      rw [hsegs, positionIn_eq_positionAfter hordered hg hpost]
    refine hposition ?_
    rw [takeLocateByStation_of_segment (by rw [hx', positionAfter_segment]), hx', positionAfter_code, ← hkind]
  case before =>
    refine hposition ?_
    have hx' : positionIn (countGood s).program.segments x.toNat = .before := positionIn_of_before hne hx
    simp only [takeLocateByStation, hx']
    rfl
  case offset =>
    have hfind : findSegment (countGood s) id.toNat = some g := hg
    refine exec_refused rfl hs ?_
    simp only [takeRequest, takeLocateBySegment, hfind, if_neg (show ¬g.length < off.toNat by omega)]
  case unknown =>
    have hfind : findSegment (countGood s) id.toNat = none := by
      change s.program.segments.find? (fun g => g.id == id.toNat) = none
      simpa using hnone
    refine ⟨exec_refused rfl hs ?_, exec_refused rfl hs ?_⟩
    · simp only [takeRequest, takeQuerySegment, hfind]
    · simp only [takeRequest, takeLocateBySegment, hfind]
  case past =>
    have hfind : findSegment (countGood s) id.toNat = some g := hg
    refine exec_refused rfl hs ?_
    simp only [takeRequest, takeLocateBySegment, hfind, if_pos hoff]
  case totals =>
    have hdelivered : s.conveyor.delivered = a := by
      rw [ha]
      unfold Conveyor.delivered
      cases s.conveyor.current <;> rfl
    have hsmall : litres a ≤ 65535 := by
      unfold litres
      omega
    have hnumber : s.conveyor.truckNumber = n := by
      rw [hn]
      unfold Conveyor.truckNumber
      cases s.conveyor.current <;> rfl
    refine exec_refused rfl hs ?_
    change (countGood s, _) = _
    refine congrArg (Prod.mk (countGood s)) (congrArg (answer .done) ?_)
    change balanceFields s.conveyor ++ [field2 (deliveredLitres s.conveyor.delivered),
      field3 (deliveredRemainder s.conveyor.delivered), u8 s.conveyor.truck.code, field2 s.conveyor.truckNumber,
      u8 s.conveyor.cutRate, u8 s.conveyor.command, u8 s.conveyor.measured, u8 s.conveyor.log.length] = _
    rw [hdelivered, hnumber, deliveredLitres, deliveredRemainder, if_pos hsmall, if_pos hsmall]
    simp only [balanceFields, housingFields, housingLitres_eq hfits]
    rfl

/-! ## Read Setup and Store Setup -/

theorem groupBytes_of_le (p : Setup) {n : Nat} (h : n ≤ 16) :
    ∃ bs, groupBytes p n = some bs ∧ bs.length = groupLength n := by
  interval_cases n <;> exact ⟨_, rfl, rfl⟩

theorem groupBytes_of_gt (p : Setup) {n : Nat} (h : 16 < n) : groupBytes p n = none := by
  unfold groupBytes
  split <;> first | omega | rfl

/-- Settles O30: the group's bytes are those of the working setup. -/
theorem readSetupReplies : Obligations.ReadSetupReplies := by
  unfold Obligations.ReadSetupReplies
  intro tag g s hs
  refine ⟨fun hbusy => exec_busy rfl hs rfl rfl hbusy, fun hu hg => ?_, fun hu hg => ?_⟩
  · refine exec_refused rfl ⟨hs, hu⟩ ?_
    simp only [takeRequest, takeReadSetup, groupBytes_of_gt _ hg]
  · obtain ⟨bs, hbs, hlength⟩ := groupBytes_of_le s.setup hg
    refine ⟨bs, hbs, hlength, exec_refused rfl ⟨hs, hu⟩ ?_⟩
    have hbs' : groupBytes (countGood s).setup g.toNat = some bs := hbs
    simp only [takeRequest, takeReadSetup, hbs']
    rfl

/-- Settles O60: the working setup is held for the store as the request finds it, and stored at the timer's end. -/
theorem storeSetupStores : Obligations.StoreSetupStores := by
  unfold Obligations.StoreSetupStores
  intro tag s
  refine ⟨fun hs hlow => ?_, fun hs hlow => ?_, fun p hp => ?_⟩
  · have hlow' : (countGood s).supply.state ≠ .low := hlow
    have htaken : takeRequest .storeSetup (countGood s) =
        ((countGood s).setStore { s.store with begun := true, stored := none, storing := some s.store.working },
          answer .done []) := by
      simp only [takeRequest, takeStoreSetup, if_neg hlow']
      rfl
    have hnext := exec_answered (i := .storeSetup tag) rfl hs htaken
    exact ⟨_, hnext, rfl, rfl, rfl, rfl⟩
  · have hlow' : (countGood s).supply.state = .low := hlow
    refine exec_refused rfl hs ?_
    simp only [takeRequest, takeStoreSetup, if_pos hlow']
  · simp only [exec, execStoreTimerExpiry, hp]
    rfl

/-! ## Set Station -/

theorem obstacleStationChange_empty {s : State} (h : s.obstacles = []) (x : Nat) (dir : Direction) :
    obstacleStationChange s x dir = s := by
  unfold obstacleStationChange
  rw [h]
  exact congrArg s.setObstacles h.symm

/-- Settles O19: BUSY by the screen; else the first condition that fails, or the station set in an empty list and
an empty table. -/
theorem setStationByItsConditions : Obligations.SetStationByItsConditions := by
  unfold Obligations.SetStationByItsConditions
  intro tag x s hs
  refine ⟨fun hbusy => exec_busy rfl hs rfl rfl hbusy, fun hu hstill hauto hsegs hobs => ?_, fun d hu hd => ?_⟩
  · have hrefusal : setStationRefusal (countGood s) = none := by
      have hany : anyAuto (countGood s) = false := (anyAuto_false_iff _).mpr hauto
      unfold setStationRefusal
      simp [hstill, hany, hsegs, hobs]
    have htaken : takeRequest (.setStation x) (countGood s) =
        (forgetBase ((countGood s).setTravel
          { s.travel with station := x.toNat, frac := 0, edges := 0, triggerCount := 0 }),
          answer .done [field3 x.toNat]) := by
      simp only [takeRequest, takeSetStation, hrefusal]
      rw [programStationChange_empty (by exact hsegs), obstacleStationChange_empty (by exact hobs)]
      rfl
    exact exec_answered rfl ⟨hs, hu⟩ htaken
  · have hrefusal : setStationRefusal (countGood s) = some d := by
      unfold setStationRefusal
      rcases hd with ⟨hstill, rfl⟩ | ⟨hstill, hauto, rfl⟩ | ⟨hstill, hauto, hsegs, rfl⟩ |
        ⟨hstill, hauto, hsegs, hobs, rfl⟩
      · simp [hstill]
      · have hany : anyAuto (countGood s) = true := by
          rw [← Bool.not_eq_false, anyAuto_false_iff]
          exact hauto
        simp [hstill, hany]
      · have hany : anyAuto (countGood s) = false := (anyAuto_false_iff _).mpr hauto
        simp [hstill, hany, hsegs]
      · have hany : anyAuto (countGood s) = false := (anyAuto_false_iff _).mpr hauto
        simp [hstill, hany, hsegs, hobs]
    refine exec_refused rfl ⟨hs, hu⟩ ?_
    simp only [takeRequest, takeSetStation, hrefusal]

/-! ## Reasons -/

theorem setHolds_set_get (s : State) (r : HoldReason) (v : Option Nat) (k : HoldReason) :
    (setHolds s (s.advance.holds.set r v)).advance.holds.get k = if k = r then v else s.advance.holds.get k := by
  change (s.advance.holds.set r v).get k = _
  by_cases h : r = k
  · subst h
    simp
  · rw [PerReason.get_set_ne _ _ _ _ h, if_neg (Ne.symm h)]

/-- Settles O51: the set changes in the one reason, and the cap is computed from the set. -/
theorem reasonsAddedAndWithdrawn : Obligations.ReasonsAddedAndWithdrawn := by
  unfold Obligations.ReasonsAddedAndWithdrawn
  intro s r cap
  exact ⟨⟨_, rfl, rfl, fun k => setHolds_set_get (takeHanded s _) r (some cap) k, capInv_setHolds _ _⟩,
    ⟨_, rfl, rfl, fun k => setHolds_set_get (takeHanded s _) r none k, capInv_setHolds _ _⟩,
    ⟨_, rfl, rfl, fun k => setHolds_set_get (takeHanded s _) .programEnd none k, capInv_setHolds _ _⟩⟩

theorem holdReasonOfCode_code (r : HoldReason) : holdReasonOfCode (holdReasonCode r) = some r := by cases r <;> rfl

theorem holdReasonOfCode_of_le {n : Nat} (h : n ≤ 7) : ∃ r, holdReasonOfCode n = some r ∧ holdReasonCode r = n := by
  interval_cases n <;> exact ⟨_, rfl, rfl⟩

theorem holdReasonOfCode_of_gt {n : Nat} (h : 7 < n) : holdReasonOfCode n = none := by
  unfold holdReasonOfCode
  split <;> first | omega | rfl

/-- The two latched reasons stand at codes 2 and 5 (Table 8.4). -/
theorem reasonLatched_iff (r : HoldReason) :
    reasonLatched r = true ↔ holdReasonCode r = 2 ∨ holdReasonCode r = 5 := by
  cases r <;> decide

/-- Release Hold of a reason, by its refusal. -/
theorem takeReleaseHold_refused {s : State} {code : Byte} {r : HoldReason} {a : Answer}
    (hr : holdReasonOfCode code.toNat = some r) (h : releaseRefusal s r = some a) : takeReleaseHold code s = (s, a) := by
  simp only [takeReleaseHold, hr, h]

/-- Settles O52: the checks of R160 in their order, the breach test as R83 says it. -/
theorem releaseHoldByItsChecks : Obligations.ReleaseHoldByItsChecks := by
  unfold Obligations.ReleaseHoldByItsChecks
  intro tag code s hs
  have hcode : ∀ r, code.toNat = holdReasonCode r → holdReasonOfCode code.toNat = some r := fun r h =>
    h ▸ holdReasonOfCode_code r
  have hbreach : breachStands (countGood s) = true ↔ BreachHolds s := breachStands_iff (countGood s)
  refine ⟨fun a ha => exec_refused rfl hs ?_, fun r hr => ?_⟩
  · change takeReleaseHold code (countGood s) = _
    rcases ha with ⟨hgt, rfl⟩ | ⟨hle, h2, h5, rfl⟩ | ⟨h2, habsent, rfl⟩ | ⟨h5, habsent, rfl⟩ |
      ⟨h2, hpresent, hholds, rfl⟩
    · simp only [takeReleaseHold, holdReasonOfCode_of_gt hgt]
    · obtain ⟨r, hr, hrc⟩ := holdReasonOfCode_of_le hle
      refine takeReleaseHold_refused hr ?_
      have hlatched : reasonLatched r = false := by
        rw [← Bool.not_eq_true, reasonLatched_iff, hrc]
        exact not_or.mpr ⟨h2, h5⟩
      simp [releaseRefusal, hlatched]
    · refine takeReleaseHold_refused (hcode .breach h2) ?_
      simp [releaseRefusal, reasonLatched, PerReason.get, habsent, holdReasonCode]
    · refine takeReleaseHold_refused (hcode .programEnd h5) ?_
      simp [releaseRefusal, reasonLatched, PerReason.get, habsent, holdReasonCode]
    · refine takeReleaseHold_refused (hcode .breach h2) ?_
      simp [releaseRefusal, reasonLatched, PerReason.get, hpresent, hbreach.mpr hholds]
  · have hreason : holdReasonOfCode code.toNat = some r ∧ releaseRefusal (countGood s) r = none := by
      rcases hr with ⟨h2, hpresent, hholds, rfl⟩ | ⟨h5, hpresent, rfl⟩
      · refine ⟨hcode .breach h2, ?_⟩
        have hstands : breachStands (countGood s) = false := by rwa [← Bool.not_eq_true, hbreach]
        simp [releaseRefusal, reasonLatched, PerReason.get, hpresent, hstands]
      · refine ⟨hcode .programEnd h5, ?_⟩
        simp [releaseRefusal, reasonLatched, PerReason.get, hpresent]
    have htaken : takeRequest (.releaseHold code) (countGood s) = (withdrawReason (countGood s) r, answer .done
        ([field2 (withdrawReason s r).advance.speedCap, flag (withdrawReason s r).advance.permit] ++
          reasonFields (withdrawReason s r).advance.holds)) := by
      simp only [takeRequest, takeReleaseHold, hreason.1, hreason.2]
      rfl
    have hnext := exec_answered (i := .releaseHold tag code) rfl hs htaken
    exact ⟨_, hnext, rfl, fun k => setHolds_set_get (countGood s) r none k,
      CapInv.congr (capInv_setHolds (countGood s) _) rfl rfl⟩

end Sys2Proof.Machine
end

section
/-! The setup load at start-up, and a Link Reset in every block. -/

namespace Sys2Proof.Machine

open Sys2Proof

/-! ## The setup load -/

section
variable {s : State}

theorem loadChoice_stored {p : Setup} (hb : s.store.begun = false) (hp : s.store.stored = some p) :
    loadChoice s.store = (p, none) := by
  simp [loadChoice, hb, hp]

theorem loadChoice_defaults {cause : DefaultCause}
    (h : s.store.begun = true ∧ cause = .interrupted ∨
      s.store.begun = false ∧ s.store.stored = none ∧ cause = .check) :
    loadChoice s.store = (factorySetup, some cause) := by
  rcases h with ⟨hb, rfl⟩ | ⟨hb, hnone, rfl⟩
  · simp [loadChoice, hb]
  · simp [loadChoice, hb, hnone]

/-- The state of a load before its notice: the settings taken and the phase and the stored-setup state set. -/
def loaded (s : State) (p : Setup) (k : StoredState) : State :=
  let t := takeSettings s p
  t.setStore { t.store with phase := .supplyWait, storedState := k }

theorem load_of_stored {p : Setup} (h : loadChoice s.store = (p, none)) : load s = loaded s p .stored := by
  simp only [load, h]
  rfl

theorem load_of_defaults {p : Setup} {cause : DefaultCause} (h : loadChoice s.store = (p, some cause)) :
    load s = post (loaded s p .defaults) .setupDefaulted (.setupDefaulted cause) := by
  simp only [load, h]
  rfl

theorem loaded_lineInv (p : Setup) (k : StoredState) (hs : LineInv s) : LineInv (loaded s p k) :=
  ⟨(takeSettings_lineInv p hs).1, (takeSettings_lineInv p hs).2.1, (takeSettings_lineInv p hs).2.2⟩

theorem loaded_capInv (s : State) (p : Setup) (k : StoredState) : CapInv (loaded s p k) :=
  CapInv.congr (s := setHolds (((setWorking s p).setTravel _).setLink _) s.advance.holds) (capInv_setHolds _ _) rfl rfl

/-- Handing a notice to the transmitter leaves the baud rate. -/
theorem arbitrate_baud (s : State) : (arbitrate s).link.baud = s.link.baud := by
  unfold arbitrate offerNotice sendNotice
  split
  · split
    · rfl
    · split
      · rfl
      · split <;> rfl
  · rfl

theorem post_baud (s : State) (c : NoticeClass) (d : NoticeDetail) : (post s c d).link.baud = s.link.baud := by
  unfold post postAt
  rw [arbitrate_baud]
  rfl

/-- The blocks of a load that no notice reaches. -/
theorem loaded_offLine (s : State) (p : Setup) (k : StoredState) {t : State} (h : OffLine (loaded s p k) t) :
    t.store = { s.store with working := p, phase := .supplyWait, storedState := k } ∧
      t.advance.holds = s.advance.holds ∧ CapInv t ∧ t.travel.station = s.travel.station ∧
      t.travel.dir = s.travel.dir ∧ t.travel.frac = 0 ∧ t.travel.edges = 0 ∧ t.travel.triggerCount = 0 ∧
      t.legs = s.legs ∧ t.scanner = s.scanner := by
  have hcap : CapInv t := by
    rw [h]
    exact CapInv.congr (loaded_capInv s p k) rfl rfl
  refine ⟨?_, ?_, hcap, ?_⟩
  · rw [h]; rfl
  · rw [h]; rfl
  · rw [h]; exact ⟨rfl, rfl, rfl, rfl, rfl, rfl, rfl⟩

/-- The notice of a defaulted setup, behind a frame on the line. -/
theorem loaded_post_busy (cause : DefaultCause) (hb : s.link.tx ≠ .idle) :
    ∃ n, (post (loaded s factorySetup .defaults) .setupDefaulted
        (.setupDefaulted cause)).notices.pending.setupDefaulted = some n ∧
      n.detail = .setupDefaulted cause ∧ n.station = s.travel.station := by
  have hb' : (loaded s factorySetup .defaults).link.tx ≠ .idle := hb
  rw [post_busy _ _ _ hb']
  have hself := takeOccurrence_pending_self (loaded s factorySetup .defaults) .setupDefaulted s.travel.station
    (.setupDefaulted cause) (show (1 : Nat) < 3 by decide)
  exact ⟨_, hself, rfl, rfl⟩

end

/-- Settles O13: the choice of the copy, the settings taken by every block, and the notice at the level of the
factory setup. -/
theorem setupLoadTakesTheStoredCopy : Obligations.SetupLoadTakesTheStoredCopy := by
  unfold Obligations.SetupLoadTakesTheStoredCopy
  intro s hphase
  have hexec : exec .setupLoad s = .next (load s) := by
    simp only [exec, execSetupLoad, hphase, if_true]
  refine ⟨fun p hb hp => ?_, fun cause hcause => ?_⟩
  · rw [hexec, load_of_stored (loadChoice_stored hb hp)]
    obtain ⟨hstore, hholds, hcap, hstation, hdir, hfrac, hedges, htrigger, hlegs, hscanner⟩ :=
      loaded_offLine s p .stored (OffLine.refl _)
    exact ⟨_, rfl, hstore, rfl, rfl, hstation, hdir, hfrac, hedges, htrigger, hlegs, hscanner, hholds, hcap⟩
  · rw [hexec, load_of_defaults (loadChoice_defaults hcause)]
    obtain ⟨hstore, hholds, hcap, hstation, hdir, hfrac, hedges, htrigger, hlegs, hscanner⟩ :=
      loaded_offLine s factorySetup .defaults (offLine_post _ .setupDefaulted (.setupDefaulted cause))
    refine ⟨_, rfl, hstore, post_baud _ _ _, ?_, hholds, hcap, hstation, hdir, hfrac, hedges, htrigger, hlegs, hscanner,
      fun hb => ⟨?_, loaded_post_busy cause hb⟩, fun hi hinv => ?_⟩
    · exact (postAt_latched _ .setupDefaulted .setupDefaulted _ _).trans (by simp)
    · exact (Posted.post (loaded s factorySetup .defaults) _ _).busy_link hb
    · rw [post_eq _ _ _ (loaded_lineInv factorySetup .defaults hinv)]
      have hidle : (loaded s factorySetup .defaults).link.tx = .idle := hi
      have hpending : ∀ c, (loaded s factorySetup .defaults).notices.pending.get c = none :=
        ((loaded_lineInv factorySetup .defaults hinv).1 hi).2
      have hsent : SentAtOnce (loaded s factorySetup .defaults) .setupDefaulted := ⟨hidle, show (1 : Nat) < 3 by decide⟩
      refine ⟨fun c => ?_, ?_⟩
      · simp only [State.occurred, Notices.occurred, hidle, true_or, if_true]
        exact hpending c
      · simp only [State.occurred, Link.occurred, if_pos hsent]
        rfl

/-! ## Link Reset -/

theorem legOf_holdIfAuto (s : State) (d : Side) : legOf (holdIfAuto s d) d =
    if (legOf s d).mode = .auto then (legOf s d).restedIn .hold else legOf s d := by
  unfold holdIfAuto
  split
  · exact legOf_enterMode_self s d .hold
  · rfl

theorem legOf_holdIfAuto_ne (s : State) {d e : Side} (h : e ≠ d) : legOf (holdIfAuto s d) e = legOf s e := by
  unfold holdIfAuto
  split
  · exact legOf_enterMode_ne s .hold h
  · rfl

/-- Each leg in AUTO rests in HOLD (R124). -/
theorem legOf_holdAutoLegs (s : State) (d : Side) : legOf (holdAutoLegs s) d =
    if (legOf s d).mode = .auto then (legOf s d).restedIn .hold else legOf s d := by
  unfold holdAutoLegs
  cases d with
  | left =>
    rw [legOf_holdIfAuto_ne _ (by decide)]
    exact legOf_holdIfAuto s .left
  | right =>
    rw [legOf_holdIfAuto, legOf_holdIfAuto_ne _ (by decide)]

theorem linkResetActs_program (s : State) : (linkResetActs s).program =
    { segments := [], base := none, lowWater := false, transfer := none } := by
  unfold linkResetActs programLinkReset
  simp only
  split <;> simp [Program.emptied]

/-- The blocks that a Link Reset does not reach, and the emptied table. -/
theorem linkResetActs_others (s : State) : (linkResetActs s).obstacles = [] ∧
    (linkResetActs s).travel = s.travel ∧ (linkResetActs s).scanner = s.scanner ∧
    (linkResetActs s).grade = s.grade ∧ (linkResetActs s).conveyor = s.conveyor ∧
    (linkResetActs s).inputs = s.inputs ∧ (linkResetActs s).supply = s.supply ∧
    (linkResetActs s).store = s.store ∧ (linkResetActs s).advance.holds = s.advance.holds.set .programEnd none := by
  unfold linkResetActs programLinkReset clearNotices withdrawReason setHolds
  simp only
  split <;> simp

/-- The flags after a Link Reset: those whose conditions last (R167, R170). -/
theorem linkResetActs_latched (s : State) (c : NoticeClass) : (linkResetActs s).notices.latched.get c =
    match c with
    | .supplyLow => decide (s.supply.state = .low)
    | .stopSense => decide (s.inputs.stopSense.accepted = .active)
    | .housingHigh => s.conveyor.housingHeld
    | .beltStall => decide (s.conveyor.belt = .stalled)
    | .referenceLost => s.grade.sides.left.refHold || s.grade.sides.right.refHold
    | _ => false := by
  have hself : (linkResetActs s).notices.latched = relatch (linkResetActs s) := rfl
  obtain ⟨-, -, -, hgrade, hconveyor, hinputs, hsupply, -, -⟩ := linkResetActs_others s
  rw [hself, relatch_get, hgrade, hconveyor, hinputs, hsupply, linkResetActs_program]
  cases c <;> rfl

/-- A Link Reset is answered before it acts (R179). -/
theorem exec_linkReset {s : State} (tag : Byte) (hs : Listening s) (hstore : s.store.storing = none) :
    exec (.linkReset tag) s =
      .next (linkResetActs { s with link := s.link.answered (replyTo tag .linkReset (answer .done [])) }) := by
  have hscreen : screenKind (countGood s) Request.linkReset.kind = none :=
    screenKind_passed rfl fun h => (screenedBusy_iff _ _).mp h |>.elim
      (fun h => by simp [hstore] at h) (fun h => by simp [passesTransfer, Request.kind] at h)
  rw [exec_row_hunt rfl hs]
  unfold serveRequest
  rw [hscreen]
  simp only
  rw [placeReply_countGood]
  rfl

/-- Settles O57: each block's own reset, behind the reply. -/
theorem linkResetActsInEveryBlock : Obligations.LinkResetActs := by
  unfold Obligations.LinkResetActs
  intro tag s hs hstore
  rw [exec_linkReset tag hs hstore]
  generalize hu : ({ s with link := s.link.answered (replyTo tag .linkReset (answer .done [])) } : State) = u
  obtain ⟨hobs, htravel, hscanner, hgrade, hconveyor, hinputs, hsupply, hstore', hholds⟩ := linkResetActs_others u
  obtain ⟨v, hv, hlegs⟩ := linkResetActs_legs u
  have hleg : ∀ d, legOf (linkResetActs u) d = legOf (holdAutoLegs v) d := fun d =>
    congrArg (fun l : LegDrive => l.legs.get d) hlegs
  have hlegV : ∀ d, legOf v d = legOf s d := fun d => by
    rw [← hu] at hv
    exact congrArg (fun l : LegDrive => l.legs.get d) hv
  refine ⟨_, rfl, linkResetActs_program u, hobs, linkResetActs_pending u, fun c => ?_, fun d => ?_, fun k => ?_,
    capInv_linkReset u, ?_, ?_, ?_, ?_, ?_, ?_, ?_, ?_⟩
  · rw [linkResetActs_latched]
    subst hu
    cases c <;> rfl
  · rw [hleg, legOf_holdAutoLegs, hlegV]
  · rw [hholds]
    subst hu
    exact setHolds_set_get s .programEnd none k
  · rw [linkResetActs_link]
    subst hu
    rfl
  · rw [htravel, ← hu]
  · rw [hscanner, ← hu]
  · rw [hgrade, ← hu]
  · rw [hconveyor, ← hu]
  · rw [hinputs, ← hu]
  · rw [hsupply, ← hu]
  · rw [hstore', ← hu]

end Sys2Proof.Machine
end

section
/-! The Loading Conveyor: what each of its operations leaves in its state, and its requests and events. -/

namespace Sys2Proof.Machine

open Sys2Proof

theorem Posted.then_quiet {s t u : State} {l : List Occurrence} (h : Posted s t l) (k : Posted t u []) :
    Posted s u l := by
  have hu := h.trans k
  rwa [List.append_nil] at hu

theorem Posted.quiet_then {s t u : State} {l : List Occurrence} (h : Posted s t []) (k : Posted t u l) :
    Posted s u l := by
  have hu := h.trans k
  rwa [List.nil_append] at hu

/-- The working setup is the store's. -/
theorem setup_of_store {s t : State} (h : t.store = s.store) : t.setup = s.setup := congrArg Store.working h

/-! ## The belt -/

section
variable {p : ConveyorSetup} {c : Conveyor}

/-- Either an override holds, or the table gives the command (R133). -/
theorem BeltFollows.overridden_or (h : BeltFollows p c) :
    c.command = 0 ∨ c.belt ≠ .stalled ∧ c.supplyLow = false ∧ c.stopSense = false := by
  by_cases ho : c.belt = .stalled ∨ c.supplyLow = true ∨ c.stopSense = true
  · exact .inl (h.overridden ho)
  · obtain ⟨hb, hs, ht⟩ := not_or.mp ho |>.imp_right not_or.mp
    exact .inr ⟨hb, by simpa using hs, by simpa using ht⟩

/-- The belt of AUTO rests with no truck under the discharge (R133). -/
theorem BeltFollows.command_resting (h : BeltFollows p c) (hm : c.mode = .auto)
    (ht : c.truck = .noTruck ∨ c.truck = .settling ∨ c.truck = .full) : c.command = 0 := by
  rcases h.overridden_or with h0 | ⟨hb, hs, hl⟩
  · exact h0
  · exact ((h.table hb hs hl _ rfl).2.2 hm).1 ht

/-- The belt of AUTO stays within the top-off cap in TOP_OFF (R133). -/
theorem BeltFollows.command_topOff (h : BeltFollows p c) (hm : c.mode = .auto) (ht : c.truck = .topOff) :
    c.command ≤ p.topOff := by
  rcases h.overridden_or with h0 | ⟨hb, hs, hl⟩
  · omega
  · rw [((h.table hb hs hl _ rfl).2.2 hm).2.2 ht]
    omega

theorem evaluated_belt_stalled : (c.evaluated p).belt = .stalled ↔ c.belt = .stalled := by
  simp only [Conveyor.evaluated, beltStateFor]
  split
  · next h => simp [h]
  · next h =>
    have hne : c.belt ≠ .stalled := h
    simp only [hne, iff_false]
    split <;> nofun

/-- A STALLED belt has neither command nor current (R133, R134). -/
theorem evaluated_stalled (h : c.belt = .stalled) : (c.evaluated p).command = 0 ∧ (c.evaluated p).coil = 0 := by
  have hcommand : beltCommand p c = 0 := by
    unfold beltCommand
    rw [if_pos (.inl h)]
  unfold Conveyor.evaluated
  simp [hcommand, beltCurrent]

end

theorem evaluateBelt_follows {s : State} {p : ConveyorSetup} (hp : s.setup.conveyor = p) :
    BeltFollows p (evaluateBelt s).conveyor := hp ▸ evaluated_follows _ _

theorem evaluateBelt_stalled {s : State} : (evaluateBelt s).conveyor.belt = .stalled ↔ s.conveyor.belt = .stalled :=
  evaluated_belt_stalled

/-! ## HOUSING -/

/-- The HOUSING check by its parts: the flag, the reason handed, and the notice (R140). -/
theorem checkHousing_eq (s : State) : ∃ n k, checkHousing s =
    { s with
      conveyor := { s.conveyor with
        housingHeld := housingHeldAfter s.conveyor.housingHeld s.setup.conveyor.housingLimit s.conveyor.housing },
      handed := s.handed ++
        housingHands s.conveyor.housingHeld s.setup.conveyor.housingLimit s.conveyor.housing,
      notices := n, link := k } := by
  unfold checkHousing housingHeldAfter housingHands
  simp only
  generalize s.setup.conveyor.housingLimit = limit
  by_cases habove : limit * 1000000 < s.conveyor.housing
  · cases hheld : s.conveyor.housingHeld with
    | false =>
      simp only [habove, Bool.not_false, and_self, if_true]
      rw [offLine_post (s.setConveyor _) .housingHigh _]
      exact ⟨_, _, rfl⟩
    | true =>
      have hnot : ¬s.conveyor.housing ≤ limit * 500000 := by omega
      simp only [habove, hnot, Bool.not_true, Bool.false_eq_true, and_false, false_and, if_false, if_true,
        Bool.true_eq_false, List.append_nil]
      rw [← hheld]
      exact ⟨_, _, rfl⟩
  · cases hheld : s.conveyor.housingHeld with
    | false =>
      simp only [habove, false_and, if_false, Bool.false_eq_true, and_false, ite_self, List.append_nil]
      rw [← hheld]
      exact ⟨_, _, rfl⟩
    | true =>
      by_cases hhalf : s.conveyor.housing ≤ limit * 500000
      · simp only [habove, hhalf, false_and, if_false, and_self, if_true]
        exact ⟨_, _, rfl⟩
      · simp only [habove, hhalf, false_and, if_false, List.append_nil]
        rw [← hheld]
        exact ⟨_, _, rfl⟩

theorem housingRises_iff (s : State) : housingRises s = true ↔
    s.setup.conveyor.housingLimit * 1000000 < s.conveyor.housing ∧ s.conveyor.housingHeld = false := by
  simp [housingRises]

/-- What the HOUSING check posts, in the statement's words, where H fits its field (R140; log 9). -/
theorem tells_housingPosts (s : State) (h : s.conveyor.housing < 1000000 * 2 ^ 32) :
    Tells (housingPosts s) s.travel.station
      (housingTold s.conveyor.housingHeld s.setup.conveyor.housingLimit s.conveyor.housing) := by
  unfold housingPosts
  by_cases hr : housingRises s = true
  · rw [if_pos hr, housingLitres_eq h]
    have hr' := (housingRises_iff s).mp hr
    refine ⟨by simp, by simp, fun c => ?_⟩
    cases c <;> simp [housingTold, hr']
  · rw [if_neg hr]
    have hr' := mt (housingRises_iff s).mpr hr
    refine ⟨by simp, by simp, fun c => ?_⟩
    cases c <;> simp only [housingTold, if_neg hr', List.find?_nil, Option.map_none]

theorem housingPosts_flag (s : State) (hlimit : s.setup.conveyor.housingLimit * 1000000 < s.conveyor.housing)
    (hheld : s.conveyor.housingHeld = false) :
    ((housingPosts s).any fun o => decide (o.cls = .housingHigh)) = true := by
  unfold housingPosts
  rw [if_pos ((housingRises_iff s).mpr ⟨hlimit, hheld⟩)]
  rfl

/-! ## Trucks -/

/-- The truck checks but for the belt (R144). -/
def Conveyor.truckStep (t : TruckSetup) (c : Conveyor) : Conveyor :=
  if c.truck = .loading ∨ c.truck = .topOff then
    if t.target * 1000000 ≤ c.delivered then enterFull c .full
    else if (t.target - t.margin) * 1000000 ≤ c.delivered then
      if c.truck = .loading then { c with truck := .topOff, lamp := .flash, lampLit := true, flashTimer := true }
      else c
    else if c.truck = .topOff then { c with truck := .loading, lamp := .steady, lampLit := true, flashTimer := false }
    else c
  else c

/-- The truck checks with the belt, which follows a change of the truck state (R144). -/
def Conveyor.truckChecked (t : TruckSetup) (p : ConveyorSetup) (c : Conveyor) : Conveyor :=
  if (c.truckStep t).truck = c.truck then c else (c.truckStep t).evaluated p

theorem full_ne_of_under {c : Conveyor} (h : c.truck = .loading ∨ c.truck = .topOff) : TruckState.full ≠ c.truck := by
  rcases h with h | h <;> rw [h] <;> decide

theorem truckChecks_eq (s : State) :
    truckChecks s = s.setConveyor (s.conveyor.truckChecked s.setup.truck s.setup.conveyor) := by
  unfold truckChecks Conveyor.truckChecked Conveyor.truckStep
  simp only
  generalize s.setup.truck = t
  by_cases hunder : s.conveyor.truck = .loading ∨ s.conveyor.truck = .topOff
  · simp only [if_pos hunder]
    by_cases hfull : t.target * 1000000 ≤ s.conveyor.delivered
    · have hne := full_ne_of_under hunder
      simp only [if_pos hfull, enterFull, if_neg hne]
      rfl
    · simp only [if_neg hfull]
      by_cases htop : (t.target - t.margin) * 1000000 ≤ s.conveyor.delivered
      · simp only [if_pos htop]
        by_cases hload : s.conveyor.truck = .loading
        · simp only [hload]
          rfl
        · simp only [if_neg hload]
          rfl
      · simp only [if_neg htop]
        by_cases htopOff : s.conveyor.truck = .topOff
        · simp only [htopOff]
          rfl
        · simp only [if_neg htopOff]
          rfl
  · simp only [if_neg hunder]
    rfl

/-- A truck state that the checks leave keeps the conveyor as it was. -/
theorem truckChecked_of_same {t : TruckSetup} {p : ConveyorSetup} {c : Conveyor}
    (h : (c.truckChecked t p).truck = c.truck) : c.truckChecked t p = c := by
  unfold Conveyor.truckChecked at h ⊢
  split at h
  · next hs => rw [if_pos hs]
  · next hs => exact absurd h hs

theorem truckChecked_of_away {t : TruckSetup} {p : ConveyorSetup} {c : Conveyor} (hl : c.truck ≠ .loading)
    (ht : c.truck ≠ .topOff) : c.truckChecked t p = c := by
  have hstep : c.truckStep t = c := if_neg (not_or.mpr ⟨hl, ht⟩)
  unfold Conveyor.truckChecked
  rw [hstep, if_pos rfl]

/-- What of the conveyor the truck checks read and write. -/
structure SameTruck (c d : Conveyor) : Prop where
  truck : d.truck = c.truck
  current : d.current = c.current
  lamp : d.lamp = c.lamp
  lampLit : d.lampLit = c.lampLit
  flashTimer : d.flashTimer = c.flashTimer
  hornTimer : d.hornTimer = c.hornTimer

theorem SameTruck.refl (c : Conveyor) : SameTruck c c := ⟨rfl, rfl, rfl, rfl, rfl, rfl⟩

theorem SameTruck.evaluated (p : ConveyorSetup) (c : Conveyor) : SameTruck c (c.evaluated p) :=
  ⟨rfl, rfl, rfl, rfl, rfl, rfl⟩

theorem SameTruck.trans {c d e : Conveyor} (h : SameTruck c d) (k : SameTruck d e) : SameTruck c e :=
  ⟨k.truck.trans h.truck, k.current.trans h.current, k.lamp.trans h.lamp, k.lampLit.trans h.lampLit,
    k.flashTimer.trans h.flashTimer, k.hornTimer.trans h.hornTimer⟩

/-- Where the truck state stays, the checks do nothing. -/
theorem truckStep_of_same {t : TruckSetup} {c : Conveyor} (h : (c.truckStep t).truck = c.truck) :
    c.truckStep t = c := by
  unfold Conveyor.truckStep at h ⊢
  by_cases hunder : c.truck = .loading ∨ c.truck = .topOff
  · rw [if_pos hunder] at h ⊢
    by_cases hfull : t.target * 1000000 ≤ c.delivered
    · rw [if_pos hfull] at h
      exact absurd h (full_ne_of_under hunder)
    · rw [if_neg hfull] at h ⊢
      by_cases htop : (t.target - t.margin) * 1000000 ≤ c.delivered
      · rw [if_pos htop] at h ⊢
        by_cases hload : c.truck = .loading
        · rw [if_pos hload] at h
          exact nomatch (show TruckState.topOff = .loading from h.trans hload)
        · rw [if_neg hload]
      · rw [if_neg htop] at h ⊢
        by_cases htopOff : c.truck = .topOff
        · rw [if_pos htopOff] at h
          exact nomatch (show TruckState.loading = .topOff from h.trans htopOff)
        · rw [if_neg htopOff]
  · rw [if_neg hunder]

theorem SameTruck.truckChecked (t : TruckSetup) (p : ConveyorSetup) (c : Conveyor) :
    SameTruck (c.truckStep t) (c.truckChecked t p) := by
  unfold Conveyor.truckChecked
  split
  · next h =>
    rw [truckStep_of_same h]
    exact SameTruck.refl c
  · exact SameTruck.evaluated p _

/-- The truck under the discharge after the checks, where the belt follows a change of its state (R144, R145). -/
theorem TruckChecked.of_step {t : TruckSetup} {p : ConveyorSetup} {c d : Conveyor} {k : Truck}
    (hunder : c.truck = .loading ∨ c.truck = .topOff) (hk : c.current = some k) (hd : SameTruck (c.truckStep t) d)
    (hbelt : (c.truckStep t).truck ≠ c.truck → BeltFollows p d) :
    TruckChecked d c.truck k t.target t.margin p.topOff k.delivered := by
  have hdelivered : c.delivered = k.delivered := by simp [Conveyor.delivered, hk]
  obtain ⟨htruck, hcurrent, hlamp, hlit, hflash, hhorn⟩ := hd
  refine ⟨fun hfull => ?_, fun hfull htop => ?_, fun htop => ?_⟩
  · have hstep : c.truckStep t = enterFull c .full := by
      unfold Conveyor.truckStep
      rw [if_pos hunder, if_pos (by omega)]
    rw [hstep] at htruck hcurrent hlamp hlit hflash hhorn hbelt
    have hne : (enterFull c .full).truck ≠ c.truck := full_ne_of_under hunder
    refine ⟨htruck, ?_, hlamp, hflash, hhorn, fun hm => (hbelt hne).command_resting hm (.inr (.inr htruck))⟩
    rw [hcurrent]
    simp [enterFull, hk]
  · have hstep : c.truckStep t =
        if c.truck = .loading then { c with truck := .topOff, lamp := .flash, lampLit := true, flashTimer := true }
        else c := by
      unfold Conveyor.truckStep
      rw [if_pos hunder, if_neg (show ¬t.target * 1000000 ≤ c.delivered by omega),
        if_pos (show (t.target - t.margin) * 1000000 ≤ c.delivered by rw [Nat.sub_mul]; omega)]
    rw [hstep] at htruck hcurrent hlamp hlit hflash hhorn hbelt
    by_cases hload : c.truck = .loading
    · rw [if_pos hload] at htruck hcurrent hlamp hlit hflash hhorn hbelt
      have hne : TruckState.topOff ≠ c.truck := fun h => nomatch (h.trans hload)
      exact ⟨htruck, hcurrent.trans hk, fun _ => ⟨hlamp, hlit, hflash,
        fun hm => (hbelt hne).command_topOff hm htruck⟩⟩
    · rw [if_neg hload] at htruck hcurrent
      exact ⟨htruck.trans (hunder.resolve_left hload), hcurrent.trans hk, fun h => absurd h hload⟩
  · have hstep : c.truckStep t =
        if c.truck = .topOff then { c with truck := .loading, lamp := .steady, lampLit := true, flashTimer := false }
        else c := by
      unfold Conveyor.truckStep
      rw [if_pos hunder, if_neg (show ¬t.target * 1000000 ≤ c.delivered by omega),
        if_neg (show ¬(t.target - t.margin) * 1000000 ≤ c.delivered by rw [Nat.sub_mul]; omega)]
    rw [hstep] at htruck hcurrent hlamp hflash
    by_cases htopOff : c.truck = .topOff
    · rw [if_pos htopOff] at htruck hcurrent hlamp hflash
      exact ⟨htruck, hcurrent.trans hk, fun _ => ⟨hlamp, hflash⟩⟩
    · rw [if_neg htopOff] at htruck hcurrent
      exact ⟨htruck.trans (hunder.resolve_right htopOff), hcurrent.trans hk, fun h => absurd h htopOff⟩

/-! ## Cut reports -/

theorem addVolume_eq {k a b : Nat} (h : a + b < 2 ^ 63) : addVolume k a b = a + b := if_pos h

theorem cutRatePercent_eq {rate capacity : Nat} (h : 0 < capacity) : cutRatePercent rate capacity =
    min 100 ((rate * 100 + capacity * 1000000 - 1) / (capacity * 1000000)) := by
  unfold cutRatePercent ceilDiv
  rw [clampNat_zero, Nat.add_sub_assoc (Nat.mul_pos h (by decide))]

/-- A conveyor operation's state: its conveyor, handed events and free count, and the rest as it was. -/
def State.withConveyor (s : State) (c : Conveyor) (l : List Instr) (m : Nat) : State :=
  { s with conveyor := c, handed := l, freeCount := m }

section
variable {s : State} {c : Conveyor} {l : List Instr} {m : Nat}

theorem takeHanded_withConveyor {e : Instr} :
    ((takeHanded s e).setConveyor c).setFreeCount m = s.withConveyor c (s.handed.erase e) m := (rfl)

theorem withConveyor_conveyor : (s.withConveyor c l m).conveyor = c := (rfl)

theorem withConveyor_store : (s.withConveyor c l m).store = s.store := (rfl)

theorem withConveyor_travel : (s.withConveyor c l m).travel = s.travel := (rfl)

theorem withConveyor_quiet : Posted s (s.withConveyor c l m) [] := Posted.nothing rfl rfl rfl

end

theorem Posted.housingHigh {s t : State} {l : List Occurrence} (h : Posted s t l)
    (hl : (l.any fun o => decide (o.cls = .housingHigh)) = true) : t.notices.latched.housingHigh = true := by
  have hlatched := h.latched .housingHigh
  rw [hl, Bool.or_true] at hlatched
  exact hlatched

/-- The belt's evaluation writes the belt's command, current and state. -/
theorem evaluateBelt_parts (s : State) : evaluateBelt s =
    { s with
      conveyor := { s.conveyor with
        command := (evaluateBelt s).conveyor.command, coil := (evaluateBelt s).conveyor.coil,
        belt := (evaluateBelt s).conveyor.belt },
      notices := (evaluateBelt s).notices, link := (evaluateBelt s).link } := rfl

/-- The conveyor with a cut report's volume and percent taken (R132). -/
def Conveyor.cut (c : Conveyor) (housing total rate : Nat) : Conveyor :=
  { c with housing := housing, totalCut := total, cutRate := rate }

theorem takeCutReport_eq (s : State) (r : CutReport) : takeCutReport s r = evaluateBelt (checkHousing
    ((s.setConveyor (s.conveyor.cut (addVolume s.freeCount s.conveyor.housing r.loose)
      (addVolume (s.freeCount + 1) s.conveyor.totalCut r.loose)
      (cutRatePercent r.rate s.setup.conveyor.capacity))).setFreeCount (s.freeCount + 2))) := by
  unfold takeCutReport Conveyor.cut
  rfl

/-- A cut report whose sums fit the range, by its parts (R132; log 8). -/
theorem exec_cutReport {s : State} {r : CutReport} {h total rate : Nat} (hh : s.conveyor.housing + r.loose = h)
    (ht : s.conveyor.totalCut + r.loose = total) (hfits : h < 2 ^ 63) (htotal : total < 2 ^ 63)
    (hr : cutRatePercent r.rate s.setup.conveyor.capacity = rate) :
    exec (.cutReport r) s = .next (evaluateBelt (checkHousing
      (s.withConveyor (s.conveyor.cut h total rate) (s.handed.erase (.cutReport r)) (s.freeCount + 2)))) := by
  have hexec : exec (.cutReport r) s = .next (takeCutReport (takeHanded s (.cutReport r)) r) := rfl
  have hc : (takeHanded s (.cutReport r)).conveyor = s.conveyor := rfl
  have hp : (takeHanded s (.cutReport r)).setup = s.setup := rfl
  have hf : (takeHanded s (.cutReport r)).freeCount = s.freeCount := rfl
  subst hh ht
  rw [hexec, takeCutReport_eq, hc, hp, hf, addVolume_eq hfits, addVolume_eq htotal, hr, takeHanded_withConveyor]

/-- The blocks after a cut report's volume, the HOUSING check and the belt are each in place. -/
theorem cut_checked_belt {s t u w : State} {l hands : List Instr} {m h total rate : Nat} {held : Bool} {n : Notices}
    {k : Link} (hu : s.withConveyor (s.conveyor.cut h total rate) l m = u)
    (hw : w = { u with
      conveyor := { u.conveyor with housingHeld := held }, handed := u.handed ++ hands, notices := n, link := k })
    (ht : t = { w with
      conveyor := { w.conveyor with
        command := t.conveyor.command, coil := t.conveyor.coil, belt := t.conveyor.belt },
      notices := t.notices, link := t.link }) :
    t = { s with
      conveyor := { s.conveyor with
        housing := h, totalCut := total, cutRate := rate, housingHeld := held,
        command := t.conveyor.command, coil := t.conveyor.coil, belt := t.conveyor.belt },
      notices := t.notices, link := t.link, handed := l ++ hands, freeCount := m } := by
  subst hu hw
  exact ht

/-- Settles O44: the sums taken, the HOUSING check on the new volume, and the belt evaluated last. -/
theorem cutReportTaken : Obligations.CutReportTaken := by
  unfold Obligations.CutReportTaken
  intro s r p h hp hh hfits hcut hcapacity
  subst hp
  rw [← cutRatePercent_eq hcapacity]
  generalize htotal : s.conveyor.totalCut + r.loose = total at hcut ⊢
  generalize hrate : cutRatePercent r.rate s.setup.conveyor.capacity = rate
  have hexec := exec_cutReport hh.symm htotal hfits hcut hrate
  clear hh htotal hrate hfits hcut
  generalize hc : s.conveyor.cut h total rate = c at hexec
  generalize hu : s.withConveyor c _ _ = u at hexec
  have hquiet : Posted s u [] := hu ▸ withConveyor_quiet
  have hconveyor : u.conveyor = c := by rw [← hu, withConveyor_conveyor]
  have hhousing : u.conveyor.housing = h := by rw [hconveyor, ← hc, Conveyor.cut]
  have hheld : u.conveyor.housingHeld = s.conveyor.housingHeld := by rw [hconveyor, ← hc, Conveyor.cut]
  have hsetup : u.setup = s.setup := setup_of_store (by rw [← hu, withConveyor_store])
  have hstation : u.travel.station = s.travel.station := by rw [← hu, withConveyor_travel]
  have hflag := housingPosts_flag u
  have htells := tells_housingPosts u
  obtain ⟨n, k, hcheck⟩ := checkHousing_eq u
  rw [hsetup, hhousing, hheld] at hcheck hflag htells
  rw [hstation] at htells
  generalize housingHeldAfter _ _ _ = held at hcheck ⊢
  generalize housingHands _ _ _ = hands at hcheck ⊢
  have hcheckPosted := checkHousing_posted u
  generalize checkHousing u = w at hexec hcheck hcheckPosted
  have hposted := (hquiet.quiet_then hcheckPosted).then_quiet (evaluateBelt_quiet w)
  have hwsetup : w.setup = s.setup := (setup_of_store (by rw [hcheck])).trans hsetup
  have hbelt : w.conveyor.belt = s.conveyor.belt := by
    simp only [hcheck, hconveyor, ← hc, Conveyor.cut]
  have hstalled : (evaluateBelt w).conveyor.belt = .stalled ↔ s.conveyor.belt = .stalled :=
    hbelt ▸ evaluateBelt_stalled
  refine ⟨_, hexec, ?_, evaluateBelt_follows (congrArg Setup.conveyor hwsetup), hstalled,
    fun hlimit hheld => ?_, fun hfield => hposted.toTold (htells hfield)⟩
  · subst hc
    exact cut_checked_belt hu hcheck (evaluateBelt_parts w)
  · exact hposted.housingHigh (hflag hlimit hheld)

end Sys2Proof.Machine
end

section
/-! The belt interval: the carry, the truck checks, HOUSING and the stall check (R135 to R137). -/

namespace Sys2Proof.Machine

open Sys2Proof

/-! ## The conveyor of each stage -/

/-- An interval's start: the measured speed and what the carry leaves of H (R135, R136). -/
def Conveyor.started (c : Conveyor) (measured housing : Nat) : Conveyor :=
  { c with measured := measured, pulseCount := 0, housing := housing }

/-- The carry on the truck under the discharge, before the truck checks (R136). -/
def Conveyor.loaded (c : Conveyor) (carry total : Nat) : Conveyor :=
  { c with
    current := c.current.map fun t => { t with delivered := t.delivered + carry }, totalDelivered := total }

/-- The carry credited (R136). -/
def Conveyor.credited (t : TruckSetup) (p : ConveyorSetup) (total unattributed carry : Nat) (c : Conveyor) : Conveyor :=
  if c.truck = .loading ∨ c.truck = .topOff then (c.loaded carry total).truckChecked t p
  else { c with unattributed := unattributed }

/-- The stall check but for its notice (R137). -/
def Conveyor.stallChecked (c : Conveyor) : Conveyor :=
  if stallMet c then if 20 ≤ c.stallRun + 1 then { c with belt := .stalled, stallRun := 0 }
    else { c with stallRun := c.stallRun + 1 }
  else { c with stallRun := 0 }

section
variable {t : TruckSetup} {p : ConveyorSetup} {c : Conveyor} {carry total unattributed : Nat}

theorem credited_of_under (h : c.truck = .loading ∨ c.truck = .topOff) :
    c.credited t p total unattributed carry = (c.loaded carry total).truckChecked t p := if_pos h

theorem credited_of_away (hl : c.truck ≠ .loading) (ht : c.truck ≠ .topOff) :
    c.credited t p total unattributed carry = { c with unattributed := unattributed } :=
  if_neg (not_or.mpr ⟨hl, ht⟩)

theorem truckStep_current : (c.truckStep t).current.map (fun k => (k.number, k.arrival, k.delivered)) =
    c.current.map fun k => (k.number, k.arrival, k.delivered) := by
  unfold Conveyor.truckStep enterFull
  split
  · split
    · simp only [Option.map_map]
      rfl
    · split
      · split <;> rfl
      · split <;> rfl
  · rfl

/-- Of the conveyor, what the truck checks leave. -/
theorem truckStep_parts : c.truckStep t =
    { c with
      truck := (c.truckStep t).truck, current := (c.truckStep t).current, lamp := (c.truckStep t).lamp,
      lampLit := (c.truckStep t).lampLit, flashTimer := (c.truckStep t).flashTimer,
      hornTimer := (c.truckStep t).hornTimer } := by
  unfold Conveyor.truckStep enterFull
  split
  · split
    · rfl
    · split
      · split <;> rfl
      · split <;> rfl
  · rfl

end

/-- A conveyor of the same volumes, inputs, log and mode. -/
structure SameVolumes (c d : Conveyor) : Prop where
  mode : d.mode = c.mode
  measured : d.measured = c.measured
  pulseCount : d.pulseCount = c.pulseCount
  stallRun : d.stallRun = c.stallRun
  housing : d.housing = c.housing
  totalCut : d.totalCut = c.totalCut
  totalDelivered : d.totalDelivered = c.totalDelivered
  unattributed : d.unattributed = c.unattributed
  housingHeld : d.housingHeld = c.housingHeld
  log : d.log = c.log
  settleTimer : d.settleTimer = c.settleTimer
  nextNumber : d.nextNumber = c.nextNumber
  stalled : d.belt = .stalled ↔ c.belt = .stalled

theorem SameVolumes.refl (c : Conveyor) : SameVolumes c c :=
  ⟨rfl, rfl, rfl, rfl, rfl, rfl, rfl, rfl, rfl, rfl, rfl, rfl, Iff.rfl⟩

theorem SameVolumes.evaluated {c d : Conveyor} (p : ConveyorSetup) (h : SameVolumes c d) :
    SameVolumes c (d.evaluated p) :=
  ⟨h.mode, h.measured, h.pulseCount, h.stallRun, h.housing, h.totalCut, h.totalDelivered, h.unattributed,
    h.housingHeld, h.log, h.settleTimer, h.nextNumber, evaluated_belt_stalled.trans h.stalled⟩

theorem SameVolumes.truckStep (t : TruckSetup) (c : Conveyor) : SameVolumes c (c.truckStep t) := by
  rw [truckStep_parts]
  exact ⟨rfl, rfl, rfl, rfl, rfl, rfl, rfl, rfl, rfl, rfl, rfl, rfl, Iff.rfl⟩

theorem SameVolumes.truckChecked (t : TruckSetup) (p : ConveyorSetup) (c : Conveyor) :
    SameVolumes c (c.truckChecked t p) := by
  unfold Conveyor.truckChecked
  split
  · exact SameVolumes.refl c
  · exact (SameVolumes.truckStep t c).evaluated p

/-- The stall check by the run of the intervals that meet it (R137). -/
structure StallChecked (c d : Conveyor) : Prop where
  parts : d = { c with belt := d.belt, stallRun := d.stallRun }
  found : 20 ≤ c.command → c.measured * 4 < c.command → 19 ≤ c.stallRun → d.belt = .stalled ∧ d.stallRun = 0
  rises : 20 ≤ c.command → c.measured * 4 < c.command → c.stallRun < 19 →
    d.belt = c.belt ∧ d.stallRun = c.stallRun + 1
  runs : c.command < 20 ∨ c.command ≤ c.measured * 4 → d.belt = c.belt ∧ d.stallRun = 0

theorem stallMet_iff (c : Conveyor) : stallMet c = true ↔ 20 ≤ c.command ∧ c.measured * 4 < c.command := by
  simp [stallMet]

theorem stallChecked_spec (c : Conveyor) : StallChecked c c.stallChecked := by
  unfold Conveyor.stallChecked
  by_cases hmet : stallMet c = true
  · have hmet' := (stallMet_iff c).mp hmet
    by_cases hrun : 20 ≤ c.stallRun + 1
    · simp only [hmet, hrun, if_true]
      exact ⟨rfl, fun _ _ _ => ⟨rfl, rfl⟩, fun _ _ h => by omega, fun h => by omega⟩
    · simp only [hmet, hrun, if_true, if_false]
      exact ⟨rfl, fun _ _ h => by omega, fun _ _ _ => ⟨rfl, rfl⟩, fun h => by omega⟩
  · have hmet' := mt (stallMet_iff c).mpr hmet
    simp only [hmet, Bool.false_eq_true, if_false]
    exact ⟨rfl, fun h k => absurd ⟨h, k⟩ hmet', fun h k => absurd ⟨h, k⟩ hmet', fun _ => ⟨rfl, rfl⟩⟩

/-- A belt already STALLED stays so. -/
theorem StallChecked.stalled {c d : Conveyor} (h : StallChecked c d) (hc : c.belt = .stalled) : d.belt = .stalled := by
  by_cases hmet : 20 ≤ c.command ∧ c.measured * 4 < c.command
  · by_cases hrun : 19 ≤ c.stallRun
    · exact (h.found hmet.1 hmet.2 hrun).1
    · exact (h.rises hmet.1 hmet.2 (by omega)).1.trans hc
  · exact (h.runs (by omega)).1.trans hc

/-! ## The states of the stages -/

theorem stallCheck_eq (s : State) : ∃ n k, stallCheck s =
    { s with conveyor := s.conveyor.stallChecked, notices := n, link := k } := by
  unfold stallCheck Conveyor.stallChecked
  simp only
  split
  · split
    · rw [offLine_post (s.setConveyor _) .beltStall _]
      exact ⟨_, _, rfl⟩
    · exact ⟨_, _, rfl⟩
  · exact ⟨_, _, rfl⟩

theorem creditCarry_eq (s : State) (carry : Nat) : creditCarry s carry =
    s.withConveyor
      (s.conveyor.credited s.setup.truck s.setup.conveyor (addVolume s.freeCount s.conveyor.totalDelivered carry)
        (addVolume s.freeCount s.conveyor.unattributed carry) carry) s.handed (s.freeCount + 1) := by
  unfold creditCarry Conveyor.credited Conveyor.loaded
  simp only
  split
  · rw [truckChecks_eq]
    rfl
  · rfl

theorem measuredSpeed_eq (pulses pickup : Nat) : measuredSpeed pulses pickup = min 100 (roundDivNat (pulses * 1000) pickup) :=
  clampNat_zero _ _

/-- A belt interval by its stages (R136). -/
theorem exec_beltInterval {s : State} {m carry : Nat} (hm : measuredSpeed s.conveyor.pulseCount s.setup.conveyor.pickup = m)
    (hcarry : min s.conveyor.housing (beltCapacity s.setup.conveyor.capacity m) = carry) :
    exec .beltInterval s = .next (evaluateBelt (stallCheck (checkHousing (creditCarry
      (s.setConveyor (s.conveyor.started m (s.conveyor.housing - carry))) carry)))) := by
  subst hm hcarry
  rfl

/-! ## Posting -/

theorem Tells.none_of {l : List Occurrence} {x : Nat} {told : NoticeClass → Option NoticeDetail} (h : Tells l x told)
    {k : NoticeClass} (hk : told k = none) : ∀ o ∈ l, o.cls ≠ k := by
  rw [h.told, Option.map_eq_none_iff, List.find?_eq_none] at hk
  exact fun o ho => by simpa using hk o ho

/-- One more occurrence, of a class that had none. -/
theorem Tells.append_one {l : List Occurrence} {x : Nat} {told told' : NoticeClass → Option NoticeDetail}
    (h : Tells l x told) {k : NoticeClass} {d : NoticeDetail} (hk : told k = none) (hself : told' k = some d)
    (hother : ∀ c, c ≠ k → told' c = told c) : Tells (l ++ [⟨k, x, d⟩]) x told' := by
  have hnone := h.none_of hk
  refine ⟨fun o ho => ?_, ?_, fun c => ?_⟩
  · rcases List.mem_append.mp ho with ho | ho
    · exact h.station o ho
    · rw [List.mem_singleton.mp ho]
  · rw [List.map_append, List.nodup_append]
    refine ⟨h.once, List.nodup_singleton _, fun a ha b hb => ?_⟩
    obtain ⟨o, ho, rfl⟩ := List.mem_map.mp ha
    rw [List.mem_singleton.mp hb]
    exact hnone o ho
  · rw [List.find?_append]
    by_cases hc : c = k
    · subst hc
      have hfind : (l.find? fun o => decide (o.cls = c)) = none := by
        rw [List.find?_eq_none]
        exact fun o ho => by simpa using hnone o ho
      rw [hfind, hself]
      simp
    · rw [hother c hc, h.told c]
      simp [Ne.symm hc]

theorem Tells.congr {l : List Occurrence} {x : Nat} {told told' : NoticeClass → Option NoticeDetail} (h : Tells l x told)
    (heq : ∀ c, told' c = told c) : Tells l x told' := ⟨h.station, h.once, fun c => (heq c).trans (h.told c)⟩

theorem housingPosts_cls (s : State) : ∀ o ∈ housingPosts s, o.cls = .housingHigh := by
  unfold housingPosts
  split <;> simp

/-! ## The interval's state -/

/-- The conveyor after an interval (R135 to R137). -/
def Conveyor.interval (t : TruckSetup) (p : ConveyorSetup) (total unattributed m carry : Nat) (held : Bool)
    (c : Conveyor) : Conveyor :=
  ({ (c.started m (c.housing - carry)).credited t p total unattributed carry with housingHeld := held }
    : Conveyor).stallChecked.evaluated p

theorem evaluateBelt_eq (s : State) : evaluateBelt s = s.setConveyor (s.conveyor.evaluated s.setup.conveyor) := rfl

theorem checked_state {s u w v : State} {c : Conveyor} {l hands : List Instr} {m : Nat} {held : Bool}
    {n n' : Notices} {k k' : Link} {p : ConveyorSetup} (hu : u = s.withConveyor c l m)
    (hw : w = { u with
      conveyor := { c with housingHeld := held }, handed := u.handed ++ hands, notices := n, link := k })
    (hv : v = { w with conveyor := w.conveyor.stallChecked, notices := n', link := k' }) :
    v.setConveyor (v.conveyor.evaluated p) =
      { s with
        conveyor := ({ c with housingHeld := held } : Conveyor).stallChecked.evaluated p,
        notices := n', link := k', handed := l ++ hands, freeCount := m } := by
  subst hu hw hv
  rfl

theorem noted_kept {s t : State} {c : Conveyor} {l : List Instr} {n : Notices} {k : Link}
    (h : t = { s with conveyor := c, handed := l, notices := n, link := k }) :
    t.conveyor = c ∧ t.setup = s.setup ∧ t.travel = s.travel := by
  subst h
  exact ⟨rfl, rfl, rfl⟩

/-- The blocks that a conveyor operation leaves. -/
theorem conveyor_frame {s t : State} {c : Conveyor} {n : Notices} {k : Link} {l : List Instr} {m : Nat}
    (h : t = { s with conveyor := c, notices := n, link := k, handed := l, freeCount := m }) :
    t.travel = s.travel ∧ t.scanner = s.scanner ∧ t.program = s.program ∧ t.obstacles = s.obstacles ∧
      t.grade = s.grade ∧ t.legs = s.legs ∧ t.advance = s.advance ∧ t.inputs = s.inputs ∧ t.supply = s.supply ∧
      t.store = s.store := by
  subst h
  exact ⟨rfl, rfl, rfl, rfl, rfl, rfl, rfl, rfl, rfl, rfl⟩

/-- What an interval posts: HOUSING_HIGH, and BELT_STALL when the stall is found (R137, R140). -/
def intervalPosts (s : State) (housing : List Occurrence) (c : Conveyor) : List Occurrence :=
  housing ++ if (20 ≤ c.command ∧ c.measured * 4 < c.command) ∧ 20 ≤ c.stallRun + 1 then
    [⟨.beltStall, s.travel.station, .beltStall c.command c.measured⟩] else []

theorem setConveyor_withConveyor {s : State} {c d : Conveyor} {l : List Instr} {m : Nat} :
    (s.setConveyor c).withConveyor d l m = s.withConveyor d l m := (rfl)

/-- What the credit of the carry leaves. -/
structure Uncredited (c d : Conveyor) : Prop where
  mode : d.mode = c.mode
  measured : d.measured = c.measured
  pulseCount : d.pulseCount = c.pulseCount
  stallRun : d.stallRun = c.stallRun
  housing : d.housing = c.housing
  totalCut : d.totalCut = c.totalCut
  housingHeld : d.housingHeld = c.housingHeld
  log : d.log = c.log
  stalled : d.belt = .stalled ↔ c.belt = .stalled

theorem uncredited {t : TruckSetup} {p : ConveyorSetup} {c : Conveyor} {carry total unattributed : Nat} :
    Uncredited c (c.credited t p total unattributed carry) := by
  unfold Conveyor.credited
  split
  · have h := SameVolumes.truckChecked t p (c.loaded carry total)
    exact ⟨h.mode, h.measured, h.pulseCount, h.stallRun, h.housing, h.totalCut, h.housingHeld, h.log, h.stalled⟩
  · exact ⟨rfl, rfl, rfl, rfl, rfl, rfl, rfl, rfl, Iff.rfl⟩

theorem stallPosts_append {s w : State} {c : Conveyor} {held : Bool} (l : List Occurrence)
    (hc : w.conveyor = { c with housingHeld := held }) (hx : w.travel.station = s.travel.station) :
    l ++ stallPosts w = intervalPosts s l c := by
  unfold stallPosts stallFound intervalPosts
  rw [hc, hx]
  simp only [stallMet, Bool.and_eq_true, decide_eq_true_eq]

/-- A belt interval whose sums fit the range, with what it posts. -/
theorem beltInterval_state {s : State} {m carry limit total unattributed : Nat}
    (hlimit : s.setup.conveyor.housingLimit = limit)
    (hm : measuredSpeed s.conveyor.pulseCount s.setup.conveyor.pickup = m)
    (hcarry : min s.conveyor.housing (beltCapacity s.setup.conveyor.capacity m) = carry)
    (htotal : s.conveyor.totalDelivered + carry = total) (hun : s.conveyor.unattributed + carry = unattributed)
    (hfits : total < 2 ^ 63) (hfits' : unattributed < 2 ^ 63) :
    ∃ t n k f housing, exec .beltInterval s = .next t ∧
      t = { s with
        conveyor := s.conveyor.interval s.setup.truck s.setup.conveyor total unattributed m carry
          (housingHeldAfter s.conveyor.housingHeld limit (s.conveyor.housing - carry)),
        notices := n, link := k,
        handed := s.handed ++ housingHands s.conveyor.housingHeld limit (s.conveyor.housing - carry),
        freeCount := f } ∧
      Posted s t (intervalPosts s housing
        ((s.conveyor.started m (s.conveyor.housing - carry)).credited s.setup.truck s.setup.conveyor total
          unattributed carry)) ∧
      (∀ o ∈ housing, o.cls = .housingHigh) ∧
      (limit * 1000000 < s.conveyor.housing - carry → s.conveyor.housingHeld = false →
        (housing.any fun o => decide (o.cls = .housingHigh)) = true) ∧
      (s.conveyor.housing - carry < 1000000 * 2 ^ 32 → Tells housing s.travel.station
        (housingTold s.conveyor.housingHeld limit (s.conveyor.housing - carry))) := by
  have hexec := exec_beltInterval hm hcarry
  have hpull : (s.setConveyor (s.conveyor.started m (s.conveyor.housing - carry))).setup = s.setup := setup_of_store rfl
  rw [creditCarry_eq, hpull] at hexec
  have htotal' : addVolume s.freeCount (s.conveyor.started m (s.conveyor.housing - carry)).totalDelivered carry =
      total := by rw [← htotal]; exact addVolume_eq (htotal ▸ hfits)
  have hun' : addVolume s.freeCount (s.conveyor.started m (s.conveyor.housing - carry)).unattributed carry =
      unattributed := by rw [← hun]; exact addVolume_eq (hun ▸ hfits')
  rw [State.setConveyor_conveyor, State.setConveyor_freeCount, State.setConveyor_handed, htotal', hun',
    setConveyor_withConveyor] at hexec
  unfold Conveyor.interval
  have hkept : Uncredited (s.conveyor.started m (s.conveyor.housing - carry)) ((s.conveyor.started m
    (s.conveyor.housing - carry)).credited s.setup.truck s.setup.conveyor total unattributed carry) := uncredited
  have hch := hkept.housing
  have hheld : _ = s.conveyor.housingHeld := hkept.housingHeld
  rw [show (s.conveyor.started m (s.conveyor.housing - carry)).housing = s.conveyor.housing - carry from rfl] at hch
  clear hkept htotal' hun' hpull hfits hfits' htotal hun hm
  generalize (s.conveyor.started m (s.conveyor.housing - carry)).credited _ _ _ _ _ = c at hexec hch hheld ⊢
  generalize s.conveyor.housing - carry = h at hch ⊢
  generalize hu : s.withConveyor c _ _ = u at hexec
  have hquiet : Posted s u [] := hu ▸ withConveyor_quiet
  have hconveyor : u.conveyor = c := by rw [← hu, withConveyor_conveyor]
  have hsetup : u.setup = s.setup := setup_of_store (by rw [← hu, withConveyor_store])
  have hstation : u.travel.station = s.travel.station := by rw [← hu, withConveyor_travel]
  have hflag := housingPosts_flag u
  have htells := tells_housingPosts u
  have hcls := housingPosts_cls u
  have hcheckPosted := checkHousing_posted u
  obtain ⟨n, k, hcheck⟩ := checkHousing_eq u
  rw [hsetup, hconveyor, hch, hheld, hlimit] at hcheck hflag htells
  rw [hstation] at htells
  generalize housingPosts u = posts at hflag htells hcls hcheckPosted
  generalize housingHeldAfter _ _ _ = held at hcheck ⊢
  generalize housingHands _ _ _ = hands at hcheck ⊢
  generalize checkHousing u = w at hexec hcheck hcheckPosted
  have hstallPosted := stallCheck_posted w
  obtain ⟨n', k', hstall⟩ := stallCheck_eq w
  obtain ⟨hwconveyor, hwsetup, hwtravel⟩ := noted_kept hcheck
  obtain ⟨-, hvsetup, -⟩ := noted_kept (l := w.handed) hstall
  rw [hwsetup, hsetup] at hvsetup
  generalize stallCheck w = v at hexec hstall hstallPosted hvsetup
  have hposted := ((hquiet.quiet_then hcheckPosted).trans hstallPosted).then_quiet (evaluateBelt_quiet v)
  rw [evaluateBelt_eq, hvsetup] at hexec hposted
  have hstate := checked_state (p := s.setup.conveyor) hu.symm hcheck hstall
  rw [hstate] at hexec hposted
  have hposts := stallPosts_append posts hwconveyor (hwtravel.symm ▸ hstation)
  rw [hposts] at hposted
  exact ⟨_, _, _, _, _, hexec, rfl, hposted, hcls, hflag, htells⟩

/-! ## The interval's conveyor -/

/-- After the credit, the stages of an interval leave the volumes and the truck. -/
structure Delivered (c d : Conveyor) (held : Bool) : Prop where
  mode : d.mode = c.mode
  measured : d.measured = c.measured
  pulseCount : d.pulseCount = c.pulseCount
  housing : d.housing = c.housing
  totalCut : d.totalCut = c.totalCut
  totalDelivered : d.totalDelivered = c.totalDelivered
  unattributed : d.unattributed = c.unattributed
  log : d.log = c.log
  housingHeld : d.housingHeld = held
  same : SameTruck c d

theorem delivered_evaluated (p : ConveyorSetup) (c : Conveyor) (held : Bool) :
    Delivered c (({ c with housingHeld := held } : Conveyor).stallChecked.evaluated p) held := by
  have hparts := (stallChecked_spec { c with housingHeld := held }).parts
  obtain ⟨b, r, h⟩ : ∃ b r, ({ c with housingHeld := held } : Conveyor).stallChecked =
      { c with housingHeld := held, belt := b, stallRun := r } := ⟨_, _, hparts⟩
  rw [h]
  exact ⟨rfl, rfl, rfl, rfl, rfl, rfl, rfl, rfl, rfl, ⟨rfl, rfl, rfl, rfl, rfl, rfl⟩⟩

section
variable {t : TruckSetup} {p : ConveyorSetup} {c : Conveyor} {total unattributed carry : Nat}

/-- A carry under which the truck keeps its state leaves the belt for the stall check. -/
theorem credited_belt_of_same (h : (c.credited t p total unattributed carry).truck = c.truck) :
    (c.credited t p total unattributed carry).command = c.command ∧
      (c.credited t p total unattributed carry).belt = c.belt := by
  by_cases hunder : c.truck = .loading ∨ c.truck = .topOff
  · rw [credited_of_under hunder] at h ⊢
    rw [truckChecked_of_same (c := c.loaded carry total) h]
    exact ⟨rfl, rfl⟩
  · obtain ⟨hl, ht⟩ := not_or.mp hunder
    rw [credited_of_away hl ht]
    exact ⟨rfl, rfl⟩

theorem credited_under (hunder : c.truck = .loading ∨ c.truck = .topOff) :
    (c.credited t p total unattributed carry).totalDelivered = total ∧
      (c.credited t p total unattributed carry).unattributed = c.unattributed ∧
      ((c.credited t p total unattributed carry).current.map fun k => (k.number, k.arrival, k.delivered)) =
        c.current.map fun k => (k.number, k.arrival, k.delivered + carry) := by
  rw [credited_of_under hunder]
  have hv := SameVolumes.truckChecked t p (c.loaded carry total)
  refine ⟨hv.totalDelivered, hv.unattributed, ?_⟩
  rw [(SameTruck.truckChecked t p (c.loaded carry total)).current, truckStep_current]
  exact Option.map_map _ _ _

theorem credited_away (hl : c.truck ≠ .loading) (ht : c.truck ≠ .topOff) :
    (c.credited t p total unattributed carry).totalDelivered = c.totalDelivered ∧
      (c.credited t p total unattributed carry).unattributed = unattributed ∧
      (c.credited t p total unattributed carry).current = c.current ∧
      (c.credited t p total unattributed carry).truck = c.truck := by
  rw [credited_of_away hl ht]
  exact ⟨rfl, rfl, rfl, rfl⟩

theorem TruckChecked.of_delivered {c : Conveyor} {was : TruckState} {k : Truck} {target margin topOff delivered : Nat}
    (h : TruckChecked c was { k with delivered := delivered } target margin topOff delivered) :
    TruckChecked c was k target margin topOff delivered := ⟨h.full, h.topOff, h.loading⟩

/-- The truck under the discharge after the carry's credit (R144). -/
theorem credited_checked {d : Conveyor} {k : Truck} (hunder : c.truck = .loading ∨ c.truck = .topOff)
    (hk : c.current = some k) (hd : SameTruck (c.credited t p total unattributed carry) d) (hbelt : BeltFollows p d) :
    TruckChecked d c.truck k t.target t.margin p.topOff (k.delivered + carry) := by
  rw [credited_of_under hunder] at hd
  have hloaded : (c.loaded carry total).current = some { k with delivered := k.delivered + carry } := by
    simp only [Conveyor.loaded, hk, Option.map_some]
  exact (TruckChecked.of_step (c := c.loaded carry total) hunder hloaded
    ((SameTruck.truckChecked t p (c.loaded carry total)).trans hd) fun _ => hbelt).of_delivered

end

/-- The belt after the stall check and its evaluation, by the stall condition (R137). -/
theorem stalled_belt {c d : Conveyor} {held : Bool} {p : ConveyorSetup}
    (hd : ({ c with housingHeld := held } : Conveyor).stallChecked.evaluated p = d) :
    (20 ≤ c.command → c.measured * 4 < c.command → 19 ≤ c.stallRun →
      d.belt = .stalled ∧ d.stallRun = 0 ∧ d.command = 0 ∧ d.coil = 0) ∧
    (20 ≤ c.command → c.measured * 4 < c.command → c.stallRun < 19 → c.belt ≠ .stalled →
      d.belt ≠ .stalled ∧ d.stallRun = c.stallRun + 1) ∧
    (c.command < 20 ∨ c.command ≤ c.measured * 4 → c.belt ≠ .stalled → d.belt ≠ .stalled ∧ d.stallRun = 0) ∧
    (c.belt = .stalled → d.belt = .stalled ∧ d.command = 0) := by
  have hspec := stallChecked_spec { c with housingHeld := held }
  have hrun : d.stallRun = ({ c with housingHeld := held } : Conveyor).stallChecked.stallRun := by
    rw [← hd]
    rfl
  have hbelt : d.belt = .stalled ↔ ({ c with housingHeld := held } : Conveyor).stallChecked.belt = .stalled := by
    rw [← hd]
    exact evaluated_belt_stalled
  have hrest (h : ({ c with housingHeld := held } : Conveyor).stallChecked.belt = .stalled) :
      d.command = 0 ∧ d.coil = 0 := hd ▸ evaluated_stalled h
  refine ⟨fun h20 hslow h19 => ?_, fun h20 hslow h19 hb => ?_, fun hruns hb => ?_, fun hb => ?_⟩
  · obtain ⟨hs, hr⟩ := hspec.found h20 hslow h19
    exact ⟨hbelt.mpr hs, hrun.trans hr, hrest hs⟩
  · obtain ⟨hs, hr⟩ := hspec.rises h20 hslow h19
    exact ⟨fun hd => hb (hs.symm.trans (hbelt.mp hd)), hrun.trans hr⟩
  · obtain ⟨hs, hr⟩ := hspec.runs hruns
    exact ⟨fun hd => hb (hs.symm.trans (hbelt.mp hd)), hrun.trans hr⟩
  · have hs := hspec.stalled hb
    exact ⟨hbelt.mpr hs, (hrest hs).1⟩

theorem any_beltStall {s : State} {l : List Occurrence} {c : Conveyor} (hl : ∀ o ∈ l, o.cls = .housingHigh) :
    ((intervalPosts s l c).any fun o => decide (o.cls = .beltStall)) =
      decide ((20 ≤ c.command ∧ c.measured * 4 < c.command) ∧ 20 ≤ c.stallRun + 1) := by
  have hnone : (l.any fun o => decide (o.cls = .beltStall)) = false := by
    rw [List.any_eq_false]
    intro o ho
    simp [hl o ho]
  unfold intervalPosts
  split
  · next h => simp [hnone, h]
  · next h =>
    rw [decide_eq_false h]
    simp [hnone]

theorem Posted.beltStall {s t : State} {l : List Occurrence} (h : Posted s t l) :
    t.notices.latched.beltStall =
      (s.notices.latched.beltStall || l.any fun o => decide (o.cls = .beltStall)) := h.latched .beltStall

theorem any_housingHigh {s : State} {l : List Occurrence} {c : Conveyor}
    (h : (l.any fun o => decide (o.cls = .housingHigh)) = true) :
    ((intervalPosts s l c).any fun o => decide (o.cls = .housingHigh)) = true := by
  unfold intervalPosts
  rw [List.any_append, h, Bool.true_or]

/-- What an interval tells of, in the statement's words. -/
theorem tells_interval {s : State} {l : List Occurrence} {c d : Conveyor} {held : Bool} {limit h command m : Nat}
    (hl : Tells l s.travel.station (housingTold held limit h)) (hc : c.command = command) (hm : c.measured = m)
    (hd : d.belt = .stalled ↔ (20 ≤ c.command ∧ c.measured * 4 < c.command) ∧ 20 ≤ c.stallRun + 1) :
    Tells (intervalPosts s l c) s.travel.station fun k =>
      if k = .beltStall ∧ d.belt = .stalled then some (.beltStall command m) else housingTold held limit h k := by
  unfold intervalPosts
  subst hc hm
  by_cases hst : d.belt = .stalled
  · rw [if_pos (hd.mp hst)]
    exact hl.append_one rfl (if_pos ⟨rfl, hst⟩) fun k hk => if_neg fun hne => hk hne.1
  · rw [if_neg (mt hd.mpr hst), List.append_nil]
    exact hl.congr fun k => if_neg fun hne => hst hne.2

theorem started_kept (c : Conveyor) (m h : Nat) :
    (c.started m h).truck = c.truck ∧ (c.started m h).current = c.current ∧ (c.started m h).command = c.command ∧
      (c.started m h).belt = c.belt ∧ (c.started m h).stallRun = c.stallRun ∧ (c.started m h).totalCut = c.totalCut ∧
      (c.started m h).totalDelivered = c.totalDelivered ∧ (c.started m h).unattributed = c.unattributed ∧
      (c.started m h).log = c.log ∧ (c.started m h).mode = c.mode := ⟨rfl, rfl, rfl, rfl, rfl, rfl, rfl, rfl, rfl, rfl⟩

theorem started_set (c : Conveyor) (m h : Nat) :
    (c.started m h).measured = m ∧ (c.started m h).pulseCount = 0 ∧ (c.started m h).housing = h := ⟨rfl, rfl, rfl⟩

theorem conveyor_handed {s t : State} {c : Conveyor} {n : Notices} {k : Link} {l : List Instr} {m : Nat}
    (h : t = { s with conveyor := c, notices := n, link := k, handed := l, freeCount := m }) :
    t.conveyor = c ∧ t.handed = l := by
  subst h
  exact ⟨rfl, rfl⟩

/-- Settles O46, stage by stage: the carry's credit with the truck checks, HOUSING, the stall check and the belt. -/
theorem beltIntervalConservesVolume : Obligations.BeltIntervalConservesVolume := by
  unfold Obligations.BeltIntervalConservesVolume
  intro s m carry limit hlimit hm hcarry hfits hfits'
  have hm' : measuredSpeed s.conveyor.pulseCount s.setup.conveyor.pickup = m := (measuredSpeed_eq _ _).trans hm.symm
  have hcarry' : min s.conveyor.housing (beltCapacity s.setup.conveyor.capacity m) = carry := hcarry.symm
  have hle : carry ≤ s.conveyor.housing := hcarry ▸ Nat.min_le_left _ _
  clear hm hcarry
  generalize htotal : s.conveyor.totalDelivered + carry = total at hfits
  generalize hun : s.conveyor.unattributed + carry = unattributed at hfits'
  obtain ⟨t, n, k, f, housing, hexec, hstate, hposted, hcls, hflag, htells⟩ :=
    beltInterval_state hlimit.symm hm' hcarry' htotal hun hfits hfits'
  unfold Conveyor.interval at hstate
  obtain ⟨htravel, hscanner, hprogram, hobstacles, hgrade, hlegs, hadvance, hinputs, hsupply, hstore⟩ :=
    conveyor_frame hstate
  obtain ⟨hconveyor, hhanded⟩ := conveyor_handed hstate
  clear hstate hm' hcarry' hfits hfits'
  generalize hd : t.conveyor = d at hconveyor ⊢
  obtain ⟨htruck, hcurrent, hcommand, hbelt, hrun, hcut, hdelivered, hunattributed, hlog, hmode⟩ :=
    started_kept s.conveyor m (s.conveyor.housing - carry)
  obtain ⟨hmeasured, hpulses, hhousing⟩ := started_set s.conveyor m (s.conveyor.housing - carry)
  generalize s.conveyor.started m _ = c at *
  have hkept : Uncredited c (c.credited s.setup.truck s.setup.conveyor total unattributed carry) := uncredited
  have hunder := credited_under (t := s.setup.truck) (p := s.setup.conveyor) (c := c) (total := total)
    (unattributed := unattributed) (carry := carry)
  have haway := credited_away (t := s.setup.truck) (p := s.setup.conveyor) (c := c) (total := total)
    (unattributed := unattributed) (carry := carry)
  have hsame := credited_belt_of_same (t := s.setup.truck) (p := s.setup.conveyor) (c := c) (total := total)
    (unattributed := unattributed) (carry := carry)
  have hfollows : BeltFollows s.setup.conveyor d := hconveyor ▸ evaluated_follows _ _
  have hchecked (k : Truck) := credited_checked (t := s.setup.truck) (p := s.setup.conveyor) (c := c) (total := total)
    (unattributed := unattributed) (carry := carry) (d := d) (k := k)
  generalize c.credited _ _ _ _ _ = e at *
  generalize housingHeldAfter _ _ _ = held at *
  generalize housingHands _ _ _ = hands at *
  have hd' : Delivered e d held := hconveyor ▸ delivered_evaluated s.setup.conveyor e held
  obtain ⟨hstall, hrise, hrests, hstays⟩ := stalled_belt hconveyor.symm
  rw [htruck] at hunder haway hsame hchecked
  rw [hcurrent] at hunder haway hchecked
  have hem : e.measured = m := hkept.measured.trans hmeasured
  have her : e.stallRun = s.conveyor.stallRun := hkept.stallRun.trans hrun
  have hsames (h : d.truck = s.conveyor.truck) : e.command = s.conveyor.command ∧ e.belt = s.conveyor.belt := by
    obtain ⟨h1, h2⟩ := hsame (hd'.same.truck.symm.trans h)
    exact ⟨h1.trans hcommand, h2.trans hbelt⟩
  rw [hem, her] at hstall hrise
  rw [hem] at hrests
  have hlatched := hposted.beltStall
  rw [any_beltStall hcls, hem, her] at hlatched
  have hdh : d.housing = s.conveyor.housing - carry := hd'.housing.trans (hkept.housing.trans hhousing)
  refine ⟨t, hexec, ?_⟩
  rw [hd]
  refine ⟨hd'.measured.trans hem, hd'.pulseCount.trans (hkept.pulseCount.trans hpulses), hdh, ?_, fun hu => ?_,
    fun hl ht => ?_, fun k hu hk => hchecked k hu hk hd'.same hfollows, fun hdt hb => ⟨fun h20 hslow => ⟨fun h19 => ?_,
      fun h19 => ?_⟩, fun hruns => ?_⟩, fun hb => hstays (hkept.stalled.mpr (hbelt.trans hb)), hfollows,
    hd'.housingHeld, hhanded, fun h1 h2 => hposted.housingHigh (any_housingHigh (hflag h1 h2)), fun hdt hb hfield => ?_,
    hd'.totalCut.trans (hkept.totalCut.trans hcut), hd'.log.trans (hkept.log.trans hlog),
    hd'.mode.trans (hkept.mode.trans hmode), htravel, hscanner, hprogram, hobstacles, hgrade, hlegs, hadvance, hinputs,
    hsupply, hstore⟩
  · by_cases hu : s.conveyor.truck = .loading ∨ s.conveyor.truck = .topOff
    · obtain ⟨h1, h2, -⟩ := hunder hu
      have h1' := hd'.totalDelivered
      have h2' := hd'.unattributed
      omega
    · obtain ⟨hl, ht⟩ := not_or.mp hu
      obtain ⟨h1, h2, -, -⟩ := haway hl ht
      have h1' := hd'.totalDelivered
      have h2' := hd'.unattributed
      omega
  · obtain ⟨h1, -, h3⟩ := hunder hu
    exact ⟨hd'.totalDelivered.trans h1, (congrArg _ hd'.same.current).trans h3⟩
  · obtain ⟨-, h2, h3, h4⟩ := haway hl ht
    exact ⟨hd'.unattributed.trans h2, hd'.same.current.trans h3, hd'.same.truck.trans h4⟩
  · obtain ⟨hec, -⟩ := hsames hdt
    rw [hec] at hstall hlatched
    obtain ⟨h1, h2, h3, h4⟩ := hstall h20 hslow h19
    refine ⟨h1, h2, h3, h4, hlatched.trans ?_⟩
    rw [decide_eq_true ⟨⟨h20, hslow⟩, Nat.succ_le_succ h19⟩, Bool.or_true]
  · obtain ⟨hec, heb⟩ := hsames hdt
    rw [hec] at hrise hlatched
    obtain ⟨h1, h2⟩ := hrise h20 hslow h19 (heb ▸ hb)
    refine ⟨h1, h2, hlatched.trans ?_⟩
    rw [decide_eq_false (by omega), Bool.or_false]
  · obtain ⟨hec, heb⟩ := hsames hdt
    rw [hec] at hrests hlatched
    obtain ⟨h1, h2⟩ := hrests hruns (heb ▸ hb)
    refine ⟨h1, h2, hlatched.trans ?_⟩
    rw [decide_eq_false (by omega), Bool.or_false]
  · obtain ⟨hec, heb⟩ := hsames hdt
    refine hposted.toTold (tells_interval (htells hfield) hec hem ?_)
    rw [hem, her]
    have heb' : e.belt ≠ .stalled := heb ▸ hb
    refine ⟨fun hst => ?_, fun ⟨⟨h20, hslow⟩, h19⟩ => (hstall h20 hslow (Nat.le_of_succ_le_succ h19)).1⟩
    by_contra hnot
    by_cases hslow : 20 ≤ e.command ∧ m * 4 < e.command
    · exact (hrise hslow.1 hslow.2 (by omega) heb').1 hst
    · exact (hrests (by omega) heb').1 hst

end Sys2Proof.Machine
end

section
/-! Trucks and the conveyor's requests (R138, R141, R143, R147, R148, R150). -/

namespace Sys2Proof.Machine

open Sys2Proof

section
variable {s : State} {c d : Conveyor} {k : Link}

theorem setConveyor_setConveyor : (s.setConveyor c).setConveyor d = s.setConveyor d := rfl

theorem setConveyor_own : s.setConveyor c = { s with conveyor := (s.setConveyor c).conveyor } := rfl

theorem setConveyor_setup : (s.setConveyor c).setup = s.setup := rfl

theorem countGood_conveyor_setLink : ((countGood s).setConveyor c).setLink k = { s with conveyor := c, link := k } := rfl

theorem countGood_conveyor_link : ((countGood s).setConveyor c).link = (countGood s).link := rfl

end

/-- A settled truck, before its checks (R143). -/
def Conveyor.settled (c : Conveyor) (k : Truck) : Conveyor :=
  { c with
    truck := .loading, settleTimer := none, current := some k, nextNumber := nextTruck c.nextNumber, lamp := .steady,
    lampLit := true }

theorem exec_truckSettleTimerExpiry {s : State} {n : Nat} {k : Truck} (h : s.conveyor.settleTimer = some n)
    (hk : k = { number := s.conveyor.nextNumber, arrival := s.travel.station, delivered := 0, endReason := none }) :
    exec .truckSettleTimerExpiry s = .next (s.setConveyor
      (((s.conveyor.settled k).truckChecked s.setup.truck s.setup.conveyor).evaluated s.setup.conveyor)) := by
  have hexec : exec .truckSettleTimerExpiry s = .next (evaluateBelt (truckChecks
      (s.setConveyor (s.conveyor.settled k)))) := by
    change execTruckSettleTimerExpiry s = _
    unfold execTruckSettleTimerExpiry
    rw [hk]
    simp only [h]
    rfl
  rw [hexec, truckChecks_eq, evaluateBelt_eq, setConveyor_setConveyor, setConveyor_setConveyor, setConveyor_setup,
    setConveyor_setup, State.setConveyor_conveyor, State.setConveyor_conveyor]

/-- A truck short of its top-off point keeps its state. -/
theorem truckStep_loading {t : TruckSetup} {c : Conveyor} (h : c.truck = .loading)
    (hd : c.delivered + t.margin * 1000000 < t.target * 1000000) : c.truckStep t = c := by
  unfold Conveyor.truckStep
  rw [if_pos (.inl h), if_neg (show ¬t.target * 1000000 ≤ c.delivered by omega),
    if_neg (show ¬(t.target - t.margin) * 1000000 ≤ c.delivered by rw [Nat.sub_mul]; omega), if_neg]
  rw [h]
  nofun

/-- Settles O47: the truck checks on the new truck, then the belt. -/
theorem truckSettles : Obligations.TruckSettles := by
  unfold Obligations.TruckSettles
  intro s n k hn hk
  have hexec := exec_truckSettleTimerExpiry hn hk
  have hdelivered : (s.conveyor.settled k).delivered = 0 := by
    subst hk
    rfl
  have hk0 : k.delivered = 0 := by rw [hk]
  have hsettled : (s.conveyor.settled k).settleTimer = none ∧ (s.conveyor.settled k).nextNumber =
      nextTruck s.conveyor.nextNumber ∧ (s.conveyor.settled k).housing = s.conveyor.housing ∧
      (s.conveyor.settled k).log = s.conveyor.log ∧ (s.conveyor.settled k).mode = s.conveyor.mode ∧
      (s.conveyor.settled k).lamp = .steady ∧ (s.conveyor.settled k).truck = .loading ∧
      (s.conveyor.settled k).current = some k := ⟨rfl, rfl, rfl, rfl, rfl, rfl, rfl, rfl⟩
  obtain ⟨htimer, hnext, hhousing, hlog, hmode, hlamp, htruck, hcurrent⟩ := hsettled
  clear hk
  generalize s.conveyor.settled k = c at *
  have hv := (SameVolumes.truckChecked s.setup.truck s.setup.conveyor c).evaluated s.setup.conveyor
  have hsame := (SameTruck.truckChecked s.setup.truck s.setup.conveyor c).trans
    (SameTruck.evaluated s.setup.conveyor _)
  have hfollows := evaluated_follows s.setup.conveyor (c.truckChecked s.setup.truck s.setup.conveyor)
  generalize (c.truckChecked s.setup.truck s.setup.conveyor).evaluated s.setup.conveyor = d at *
  have hchecked := TruckChecked.of_step (.inl htruck) hcurrent hsame fun _ => hfollows
  rw [htruck, hk0] at hchecked
  refine ⟨_, hexec, setConveyor_own, hv.settleTimer.trans htimer, hv.nextNumber.trans hnext, hchecked,
    fun hlt => ?_, hv.housing.trans hhousing, hv.log.trans hlog, hv.mode.trans hmode, hfollows⟩
  have hstep := truckStep_loading (t := s.setup.truck) htruck (by omega)
  rw [hstep] at hsame
  exact ⟨hsame.truck.trans htruck, hsame.current.trans hcurrent, hsame.lamp.trans hlamp⟩

/-! ## Set Belt Mode -/

/-- The conveyor in the mode that a Set Belt Mode gives it, before the belt follows (R138). -/
def Conveyor.inMode (c : Conveyor) (m : BeltMode) (percent : Nat) : Conveyor :=
  { c with
    mode := m, manualPercent := if m = .manual then min 100 percent else c.manualPercent,
    belt := if c.belt = .stalled then .stopped else c.belt, stallRun := 0 }

theorem takeSetBeltMode_taken {s : State} {mode : Byte} {percent : BitVec 16} {m : BeltMode}
    (hm : BeltMode.ofCode mode.toNat = some m)
    (h : m = .stop ∨ s.advance.holds.get .startup = none ∧ s.conveyor.stopSense = false) :
    takeSetBeltMode mode percent s =
      (s.setConveyor ((s.conveyor.inMode m percent.toNat).evaluated s.setup.conveyor),
        answer (if m = .manual ∧ 100 < percent.toNat then .clamped else .done)
          [u8 m.code, u8 ((s.conveyor.inMode m percent.toNat).evaluated s.setup.conveyor).belt.code,
            u8 ((s.conveyor.inMode m percent.toNat).evaluated s.setup.conveyor).command]) := by
  have hnone : beltModeRefusal s m = none := by
    unfold beltModeRefusal
    rcases h with h | ⟨h1, h2⟩
    · rw [if_pos h]
    · simp [h1, h2]
  have hclamped : (m = BeltMode.manual ∧ min 100 percent.toNat ≠ percent.toNat) ↔ (m = .manual ∧ 100 < percent.toNat) :=
    and_congr_right fun _ => by omega
  unfold takeSetBeltMode
  simp only [hm, hnone, clampNat_zero, hclamped]
  rfl

theorem beltMode_ofCode_none {n : Nat} (h : 2 < n) : BeltMode.ofCode n = none := by
  match n, h with
  | _ + 3, _ => rfl

theorem beltMode_ofCode_driven {n : Nat} (h : n < 2) : ∃ m, BeltMode.ofCode n = some m ∧ m ≠ .stop := by
  match n, h with
  | 0, _ => exact ⟨.auto, rfl, nofun⟩
  | 1, _ => exact ⟨.manual, rfl, nofun⟩

theorem inMode_belt (c : Conveyor) (m : BeltMode) (percent : Nat) : (c.inMode m percent).belt ≠ .stalled := by
  unfold Conveyor.inMode
  simp only
  split
  · nofun
  · assumption

theorem beltMode_taken {s : State} {t : State} {m : BeltMode} {n : Nat} {p : ConveyorSetup} {d : Conveyor} {k : Link}
    (hd : (s.conveyor.inMode m n).evaluated p = d) (ht : t = { s with conveyor := d, link := k }) :
    t = { s with
      conveyor := { s.conveyor with
        mode := m, stallRun := 0, manualPercent := if m = .manual then min 100 n else s.conveyor.manualPercent,
        command := t.conveyor.command, coil := t.conveyor.coil, belt := t.conveyor.belt },
      link := k } := by
  subst hd ht
  rfl

/-- Settles O48: the mode held and the belt evaluated on it, or the first check that fails. -/
theorem setBeltModeAccepted : Obligations.SetBeltModeAccepted := by
  unfold Obligations.SetBeltModeAccepted
  intro tag mode percent s hs
  refine ⟨fun m hm hok => ?_, fun a h => ?_⟩
  · have htaken := takeSetBeltMode_taken (s := countGood s) (percent := percent) hm hok
    have hbelt : ((s.conveyor.inMode m percent.toNat).evaluated s.setup.conveyor).belt ≠ .stalled :=
      mt evaluated_belt_stalled.mp (inMode_belt _ _ _)
    have hfollows := evaluated_follows s.setup.conveyor (s.conveyor.inMode m percent.toNat)
    rw [show (countGood s).conveyor = s.conveyor from rfl, show (countGood s).setup = s.setup from rfl] at htaken
    generalize hd : (s.conveyor.inMode m percent.toNat).evaluated s.setup.conveyor = d at *
    have hnext := exec_answered (i := .setBeltMode tag mode percent) rfl hs htaken countGood_conveyor_link
      (by nofun) countGood_conveyor_setLink
    exact ⟨_, hnext, beltMode_taken hd rfl, hfollows, hbelt⟩
  · refine exec_refused (i := .setBeltMode tag mode percent) rfl hs ?_
    change takeSetBeltMode mode percent (countGood s) = _
    unfold takeSetBeltMode
    rcases h with ⟨hmode, rfl⟩ | ⟨hmode, hstart, rfl⟩ | ⟨hmode, hstart, hstop, rfl⟩
    · simp only [beltMode_ofCode_none hmode]
    · obtain ⟨m, hm, hne⟩ := beltMode_ofCode_driven hmode
      have hrefused : beltModeRefusal (countGood s) m = some .startup := by
        unfold beltModeRefusal
        have hsome : ((countGood s).advance.holds.get .startup).isSome = true :=
          Option.isSome_iff_ne_none.mpr hstart
        rw [if_neg hne, if_pos hsome]
      simp only [hm, hrefused]
    · obtain ⟨m, hm, hne⟩ := beltMode_ofCode_driven hmode
      have hrefused : beltModeRefusal (countGood s) m = some .stopSense := by
        have hstart' : ¬((countGood s).advance.holds.get .startup).isSome = true := fun hsome =>
          Option.isSome_iff_ne_none.mp hsome hstart
        unfold beltModeRefusal
        rw [if_neg hne, if_neg hstart', if_pos (show (countGood s).conveyor.stopSense = true from hstop)]
      simp only [hm, hrefused]

/-! ## Set Truck Target and Truck Done -/

/-- The belt follows a change of the truck state (R144). -/
theorem truckChecked_follows {t : TruckSetup} {p : ConveyorSetup} {c : Conveyor}
    (h : (c.truckStep t).truck ≠ c.truck) : BeltFollows p (c.truckChecked t p) := by
  unfold Conveyor.truckChecked
  rw [if_neg h]
  exact evaluated_follows _ _

/-- The working setup with the truck target n. -/
def Setup.targeting (p : Setup) (n : Nat) : Setup := { p with truck := { p.truck with target := n } }

theorem takeSetTruckTarget_eq (l : BitVec 16) (s : State) {n : Nat} (hn : clampNat 2000 30000 l.toNat = n) {c : Conveyor}
    (hc : s.conveyor.truckChecked { s.setup.truck with target := n } s.setup.conveyor = c) :
    takeSetTruckTarget l s = ((setWorking s (s.setup.targeting n)).setConveyor c,
      answer (if n = l.toNat then .done else .clamped)
        [field2 n, u8 c.truck.code, field2 (deliveredLitres c.delivered)]) := by
  have hparts : takeSetTruckTarget l s =
      (truckChecks (setWorking s (s.setup.targeting (clampNat 2000 30000 l.toNat))),
        answer (if clampNat 2000 30000 l.toNat ≠ l.toNat then .clamped else .done)
          [field2 (clampNat 2000 30000 l.toNat),
            u8 (truckChecks (setWorking s (s.setup.targeting (clampNat 2000 30000 l.toNat)))).conveyor.truck.code,
            field2 (deliveredLitres
              (truckChecks (setWorking s (s.setup.targeting (clampNat 2000 30000 l.toNat)))).conveyor.delivered)]) := rfl
  have hchecks : truckChecks (setWorking s (s.setup.targeting n)) =
      (setWorking s (s.setup.targeting n)).setConveyor c := by
    rw [truckChecks_eq, ← hc]
    rfl
  rw [hparts, hn, hchecks, ite_not]
  rfl

theorem truckTarget_setLink {s : State} {n : Nat} {c : Conveyor} {k : Link} :
    ((setWorking (countGood s) ((countGood s).setup.targeting n)).setConveyor c).setLink k =
      { s with
        conveyor := c,
        store := { s.store with
          working := { s.store.working with truck := { s.store.working.truck with target := n } } },
        link := k } := rfl

theorem setConveyor_ownWith {s t : State} {c : Conveyor} {p : Store} {k : Link}
    (h : t = { s with conveyor := c, store := p, link := k }) :
    t = { s with conveyor := t.conveyor, store := p, link := k } ∧ t.conveyor = c := by
  subst h
  exact ⟨rfl, rfl⟩

theorem clampNat_eq {lo hi : Nat} (h : lo ≤ hi) (l : Nat) : clampNat lo hi l = max lo (min hi l) := by
  unfold clampNat
  split_ifs <;> omega

theorem deliveredLitres_none {c : Conveyor} (h : c.current = none) : deliveredLitres c.delivered = 0 := by
  have hd : c.delivered = 0 := by simp [Conveyor.delivered, h]
  rw [hd]
  rfl

/-- A truck forced full (R148). -/
theorem takeTruckDone_forced {s : State} {k : Truck} (h : s.conveyor.truck = .loading ∨ s.conveyor.truck = .topOff)
    (hk : s.conveyor.current = some k) :
    takeTruckDone s = (s.setConveyor ((enterFull s.conveyor .forced).evaluated s.setup.conveyor),
      answer .done [field2 k.number, field2 (deliveredLitres k.delivered)]) := by
  have hnumber : s.conveyor.truckNumber = k.number := by simp [Conveyor.truckNumber, hk]
  have hdelivered : s.conveyor.delivered = k.delivered := by simp [Conveyor.delivered, hk]
  unfold takeTruckDone
  rcases h with h | h
  · simp only [h, hnumber, hdelivered]
    rfl
  · simp only [h, hnumber, hdelivered]
    rfl

theorem enterFull_fields (c : Conveyor) {k : Truck} (r : EndReason) (hk : c.current = some k) :
    (enterFull c r).truck = .full ∧ (enterFull c r).current = some { k with endReason := some r } ∧
      (enterFull c r).hornTimer = true ∧ (enterFull c r).lamp = .off ∧ (enterFull c r).flashTimer = false ∧
      (enterFull c r).mode = c.mode ∧ (enterFull c r).log = c.log ∧ (enterFull c r).housing = c.housing := by
  unfold enterFull
  simp [hk]

/-- Settles O49: the truck checks on the new target; the truck forced full; the refusals by the truck state. -/
theorem truckTargetAndDone : Obligations.TruckTargetAndDone := by
  unfold Obligations.TruckTargetAndDone
  refine ⟨fun tag l s n hs hn => ?_, fun tag s k hs hunder hk => ?_, fun tag s why hs h => ?_⟩
  · have hclamp : clampNat 2000 30000 l.toNat = n := (clampNat_eq (by decide) _).trans hn.symm
    clear hn
    generalize hc : s.conveyor.truckChecked { s.setup.truck with target := n } s.setup.conveyor = c
    have htaken := takeSetTruckTarget_eq l (countGood s) (c := c) hclamp hc
    have hnext := exec_answered (i := .setTruckTarget tag l) rfl hs htaken (by simp [setWorking]) (by nofun)
      truckTarget_setLink
    obtain ⟨hown, hconveyor⟩ := setConveyor_ownWith (s := s) (k := s.link.answered (replyTo tag (.setTruckTarget l)
      (answer (if n = l.toNat then .done else .clamped)
        [field2 n, u8 c.truck.code, field2 (deliveredLitres c.delivered)]))) (c := c) (p := { s.store with
          working := { s.store.working with truck := { s.store.working.truck with target := n } } }) rfl
    refine ⟨_, hnext, hown, fun hl ht => ?_, fun k hunder hk => ?_, fun hnone hl ht => ?_⟩
    · exact hconveyor.trans (hc ▸ truckChecked_of_away hl ht)
    · rw [hconveyor, ← hc]
      exact TruckChecked.of_step (t := { s.setup.truck with target := n }) hunder hk (SameTruck.truckChecked _ _ _)
        truckChecked_follows
    · rw [hconveyor, ← hc, truckChecked_of_away hl ht]
      exact deliveredLitres_none hnone
  · have htaken := takeTruckDone_forced (s := countGood s) hunder hk
    obtain ⟨h1, h2, h3, h4, h5, h6, h7, h8⟩ := enterFull_fields s.conveyor .forced hk
    rw [show (countGood s).conveyor = s.conveyor from rfl, show (countGood s).setup = s.setup from rfl] at htaken
    generalize enterFull s.conveyor .forced = c at *
    have hfollows := evaluated_follows s.setup.conveyor c
    have hsame := SameTruck.evaluated s.setup.conveyor c
    have hv := (SameVolumes.refl c).evaluated s.setup.conveyor
    generalize c.evaluated s.setup.conveyor = d at *
    have hnext := exec_answered (i := .truckDone tag) rfl hs htaken countGood_conveyor_link (by nofun)
      countGood_conveyor_setLink
    exact ⟨_, hnext, rfl, hsame.truck.trans h1, hsame.current.trans h2, hsame.hornTimer.trans h3, hsame.lamp.trans h4,
      hsame.flashTimer.trans h5, fun hm => hfollows.command_resting (hv.mode.trans (h6.trans hm))
        (.inr (.inr (hsame.truck.trans h1))), hv.log.trans h7, hv.housing.trans h8, hfollows⟩
  · refine exec_refused (i := .truckDone tag) rfl hs ?_
    change takeTruckDone (countGood s) = _
    unfold takeTruckDone
    rcases h with ⟨h | h, rfl⟩ | ⟨h, rfl⟩
    · simp only [show (countGood s).conveyor.truck = .noTruck from h]
    · simp only [show (countGood s).conveyor.truck = .settling from h]
    · simp only [show (countGood s).conveyor.truck = .full from h]

/-! ## Take Truck Record and Clear Totals -/

theorem takeTakeTruckRecord_taken {s : State} {r : TruckRecord} {rest : List TruckRecord}
    (h : s.conveyor.log = r :: rest) :
    takeTakeTruckRecord s = (s.setConveyor { s.conveyor with log := rest },
      answer .done (r.fields ++ [u8 rest.length])) := by
  unfold takeTakeTruckRecord
  simp only [h]

/-- The conveyor with its totals and H at 0 (R141). -/
def Conveyor.emptied (c : Conveyor) : Conveyor :=
  { c with totalCut := 0, totalDelivered := 0, unattributed := 0, housing := 0 }

theorem housingHeldAfter_zero (held : Bool) (limit : Nat) : housingHeldAfter held limit 0 = false := by
  simp [housingHeldAfter]

theorem housingHands_zero (held : Bool) (limit : Nat) :
    housingHands held limit 0 = if held then [.reasonWithdraw .housing] else [] := by
  cases held <;> simp [housingHands]

theorem housingPosts_zero {s : State} (h : s.conveyor.housing = 0) : housingPosts s = [] := by
  simp [housingPosts, housingRises, h]

theorem takeClearTotals_eq (s : State) : takeClearTotals s =
    (evaluateBelt (checkHousing (s.withConveyor s.conveyor.emptied (s.handed ++ [.clearRemainder]) s.freeCount)),
      answer .done (balanceFields s.conveyor)) := rfl

theorem checked_emptied {s u w : State} {c : Conveyor} {l hands : List Instr} {m : Nat} {held : Bool} {n : Notices}
    {k : Link} {p : ConveyorSetup} (hu : u = s.withConveyor c l m)
    (hw : w = { u with
      conveyor := { u.conveyor with housingHeld := held }, handed := u.handed ++ hands, notices := n, link := k }) :
    w.setConveyor (w.conveyor.evaluated p) =
      { s with
        conveyor := ({ c with housingHeld := held } : Conveyor).evaluated p,
        notices := n, link := k, handed := l ++ hands, freeCount := m } ∧ w.setup = s.setup ∧
      w.notices = n ∧ w.link = k := by
  subst hu hw
  exact ⟨rfl, rfl, rfl, rfl⟩

/-- What Clear Totals leaves of the conveyor, with the belt following. -/
structure Emptied (c d : Conveyor) : Prop where
  totalCut : d.totalCut = 0
  totalDelivered : d.totalDelivered = 0
  unattributed : d.unattributed = 0
  housing : d.housing = 0
  housingHeld : d.housingHeld = false
  truck : d.truck = c.truck
  current : d.current = c.current
  log : d.log = c.log
  mode : d.mode = c.mode

theorem emptied_evaluated (c : Conveyor) (p : ConveyorSetup) :
    Emptied c (({ c.emptied with housingHeld := false } : Conveyor).evaluated p) :=
  ⟨rfl, rfl, rfl, rfl, rfl, rfl, rfl, rfl, rfl⟩

/-- Clear Totals empties the conveyor, and posts nothing (R141). -/
theorem takeClearTotals_state (s : State) : ∃ d, takeClearTotals s =
      ({ s with
        conveyor := d,
        handed := s.handed ++ [.clearRemainder] ++
          (if s.conveyor.housingHeld then [.reasonWithdraw .housing] else []) },
        answer .done (balanceFields s.conveyor)) ∧
    Emptied s.conveyor d ∧ BeltFollows s.setup.conveyor d := by
  rw [takeClearTotals_eq]
  have hkept := emptied_evaluated s.conveyor s.setup.conveyor
  have hfollows := evaluated_follows s.setup.conveyor { s.conveyor.emptied with housingHeld := false }
  obtain ⟨hempty, hheld⟩ : s.conveyor.emptied.housing = 0 ∧
      s.conveyor.emptied.housingHeld = s.conveyor.housingHeld := ⟨rfl, rfl⟩
  generalize s.conveyor.emptied = c at *
  generalize hu : s.withConveyor c _ _ = u
  have hquiet : Posted s u [] := hu ▸ withConveyor_quiet
  have hconveyor : u.conveyor = c := by rw [← hu, withConveyor_conveyor]
  have hcheckPosted := checkHousing_posted u
  rw [housingPosts_zero (by rw [hconveyor]; exact hempty)] at hcheckPosted
  obtain ⟨n, k, hcheck⟩ := checkHousing_eq u
  rw [hconveyor, hempty, hheld, housingHeldAfter_zero, housingHands_zero, ← hconveyor] at hcheck
  generalize checkHousing u = w at hcheck hcheckPosted ⊢
  have hposted := hquiet.then_quiet hcheckPosted
  generalize (if s.conveyor.housingHeld = true then _ else _ : List Instr) = hands at hcheck ⊢
  obtain ⟨hstate, hsetup, hn, hk⟩ := checked_emptied (p := s.setup.conveyor) hu.symm hcheck
  rw [evaluateBelt_eq, hsetup, hstate]
  have hn' : n = s.notices := hn.symm.trans hposted.notices
  have hk' : k = s.link := hk.symm.trans hposted.link
  subst hn' hk'
  exact ⟨_, rfl, hkept, hfollows⟩

theorem balanceFields_eq {c : Conveyor} (h : c.housing < 1000000 * 2 ^ 32) : balanceFields c =
    [field8 (c.totalCut / 1000000), field3 (c.totalCut % 1000000),
      field8 (c.totalDelivered / 1000000), field3 (c.totalDelivered % 1000000),
      field8 (c.unattributed / 1000000), field3 (c.unattributed % 1000000),
      field4 (c.housing / 1000000), field3 (c.housing % 1000000)] := by
  simp only [balanceFields, housingFields, housingLitres_eq h]
  rfl

/-- Settles O50. -/
theorem recordTakenAndTotalsCleared : Obligations.RecordTakenAndTotalsCleared := by
  unfold Obligations.RecordTakenAndTotalsCleared
  refine ⟨fun tag s r rest hs h => ?_, fun tag s hs h => ?_, fun tag s hs hfits => ?_⟩
  · have htaken := takeTakeTruckRecord_taken (s := countGood s) h
    exact exec_answered (i := .takeTruckRecord tag) rfl hs htaken countGood_conveyor_link (by nofun)
      countGood_conveyor_setLink
  · refine exec_refused (i := .takeTruckRecord tag) rfl hs ?_
    change takeTakeTruckRecord (countGood s) = _
    unfold takeTakeTruckRecord
    simp only [show (countGood s).conveyor.log = [] from h]
  · obtain ⟨d, htaken, hkept, hfollows⟩ := takeClearTotals_state (countGood s)
    rw [balanceFields_eq (show (countGood s).conveyor.housing < _ from hfits)] at htaken
    have hnext := exec_answered (i := .clearTotals tag) rfl hs htaken rfl (by nofun) rfl
    exact ⟨_, hnext, rfl, hkept.totalCut, hkept.totalDelivered, hkept.unattributed, hkept.housing, hkept.housingHeld,
      hkept.truck, hkept.current, hkept.log, hkept.mode, hfollows⟩

end Sys2Proof.Machine
end

section
/-! Set Trim and the scan requests (R20, R29, R30, R112), and the supply measurement (R161, R162). -/

namespace Sys2Proof.Machine

open Sys2Proof

/-! ## Set Trim -/

theorem newTrim_eq (old : Int) (present : Bool) (v : BitVec 16) :
    newTrim old present v = if present then max (-300) (min 300 v.toInt) else old := by
  unfold newTrim
  rw [clamp_eq (by decide)]

theorem trimClamped_iff {old a : Int} {present : Bool} {v : BitVec 16} (ha : newTrim old present v = a) :
    trimClamped present v = true ↔ present = true ∧ a ≠ v.toInt := by
  subst ha
  unfold trimClamped newTrim
  cases present <;> simp

/-- Settles O38. -/
theorem setTrimHoldsTrims : Obligations.SetTrimHoldsTrims := by
  unfold Obligations.SetTrimHoldsTrims
  intro tag presence l r s a b hs ha hb
  rw [← newTrim_eq] at ha hb
  have hcode : (trimClamped (presence.getLsbD 0) l || trimClamped (presence.getLsbD 1) r) = true ↔
      (presence.getLsbD 0 = true ∧ a ≠ l.toInt ∨ presence.getLsbD 1 = true ∧ b ≠ r.toInt) := by
    rw [Bool.or_eq_true, trimClamped_iff ha.symm, trimClamped_iff hb.symm]
  have htaken : takeRequest (.setTrim presence l r) (countGood s) =
      ((countGood s).setGrade { s.grade with
          sides := ⟨{ s.grade.sides.left with trim := a }, { s.grade.sides.right with trim := b }⟩ },
        answer (if presence.getLsbD 0 = true ∧ a ≠ l.toInt ∨ presence.getLsbD 1 = true ∧ b ≠ r.toInt then .clamped
          else .done) [signed2 a, signed2 b]) := by
    change takeSetTrim presence l r (countGood s) = _
    unfold takeSetTrim
    rw [ha, hb] at *
    simp only [hcode]
    rfl
  exact exec_answered (i := .setTrim tag presence l r) rfl hs htaken

/-! ## Scan requests -/

theorem startScanRefusal_none {s : State} (hstopped : s.scanner.state = .stopped) (hlist : s.setup.scan.list ≠ [])
    (hfits : s.setup.scan.mode = .interval → scanDuration s.setup ≤ s.setup.scan.prescaler * s.setup.scan.period) :
    startScanRefusal s = none := by
  have hinterval : ¬(s.setup.scan.mode = .interval ∧ scanInterval s.setup < scanDuration s.setup) :=
    fun h => absurd h.2 (Nat.not_lt.mpr (hfits h.1))
  unfold startScanRefusal
  rw [if_neg (not_not.mpr hstopped), if_neg (by simpa using hlist), if_neg hinterval]

theorem startScanRefusal_interval {s : State} (hstopped : s.scanner.state = .stopped) (hlist : s.setup.scan.list ≠ [])
    (hmode : s.setup.scan.mode = .interval)
    (hlong : s.setup.scan.prescaler * s.setup.scan.period < scanDuration s.setup) :
    startScanRefusal s = some (refuse .badField .interval) := by
  unfold startScanRefusal
  rw [if_neg (not_not.mpr hstopped), if_neg (mt List.isEmpty_iff.mp hlist), if_pos ⟨hmode, hlong⟩]

theorem singleScanRefusal_none {s : State} (hstopped : s.scanner.state = .stopped) (hlist : s.setup.scan.list ≠ []) :
    singleScanRefusal s = none := by
  unfold singleScanRefusal
  rw [if_neg (not_not.mpr hstopped), if_neg (mt List.isEmpty_iff.mp hlist)]

theorem octet_get_map {α β : Type} (o : Octet α) (f : α → β) (c : Channel) : (o.map f).get c = f (o.get c) := by
  match c with
  | 0 | 1 | 2 | 3 | 4 | 5 | 6 | 7 => rfl

theorem scanning_refused {s : State} {a : Answer}
    (h : s.scanner.state ≠ .stopped ∧ a = refuse .notAllowed .running ∨
      s.scanner.state = .stopped ∧ s.setup.scan.list = [] ∧ a = refuse .notAllowed .emptyList) :
    takeStartScan s = (s, a) ∧ takeSingleScan s = (s, a) := by
  unfold takeStartScan takeSingleScan startScanRefusal singleScanRefusal
  rcases h with ⟨h, rfl⟩ | ⟨h, hl, rfl⟩
  · simp [h]
  · simp [h, hl]

/-- Settles O25. -/
theorem scanRequestsAccepted : Obligations.ScanRequestsAccepted := by
  unfold Obligations.ScanRequestsAccepted
  intro tag s hs
  refine ⟨fun hstopped hlist hfits => ?_, fun hauto => ?_, fun hstopped hlist => ?_, fun a h => ?_,
    fun hstopped hlist hmode hlong => ?_, fun hauto => ?_⟩
  · have htaken : takeRequest .startScan (countGood s) =
        ((beginScanning (countGood s)).setGrade { s.grade with base := none },
          answer .done [u8 (scanDuration s.setup)]) := by
      change takeStartScan (countGood s) = _
      unfold takeStartScan
      rw [startScanRefusal_none (s := countGood s) hstopped hlist hfits]
      rfl
    refine exec_answered (i := .startScan tag) rfl hs htaken (by simp [beginScanning, enterSettling]; split <;> rfl)
      (by nofun) ?_
    unfold beginScanning
    by_cases hstand : s.travel.standstill = true
    · rw [if_pos (show (countGood s).travel.standstill = true from hstand), if_pos hstand]
      rfl
    · rw [if_neg (show ¬(countGood s).travel.standstill = true from hstand), if_neg hstand]
      rfl
  · have htaken : takeRequest .stopScan (countGood s) =
        ((countGood s).setScanner s.scanner.stoppedByHost, answer .done []) := by
      change takeStopScan (countGood s) = _
      unfold takeStopScan
      rw [(anyAuto_false_iff (countGood s)).mpr hauto]
      rfl
    have hnext := exec_answered (i := .stopScan tag) rfl hs htaken
    exact ⟨_, hnext, rfl, rfl, fun c => octet_get_map _ _ c⟩
  · have htaken : takeRequest .singleScan (countGood s) =
        ((countGood s).setScanner { s.scanner with
            state := .single,
            inFlight := some
              { kind := none, station := s.travel.station, speed := s.travel.speed, stationSet := false } },
          answer .done [u8 (scanDuration s.setup)]) := by
      change takeSingleScan (countGood s) = _
      unfold takeSingleScan
      rw [singleScanRefusal_none (s := countGood s) hstopped hlist]
      rfl
    exact exec_answered (i := .singleScan tag) rfl hs htaken
  · obtain ⟨hstart, hsingle⟩ := scanning_refused (s := countGood s) h
    exact ⟨exec_refused (i := .startScan tag) rfl hs hstart, exec_refused (i := .singleScan tag) rfl hs hsingle⟩
  · refine exec_refused (i := .startScan tag) rfl hs ?_
    change takeStartScan (countGood s) = _
    unfold takeStartScan
    rw [startScanRefusal_interval (s := countGood s) hstopped hlist hmode hlong]
  · refine exec_refused (i := .stopScan tag) rfl hs ?_
    change takeStopScan (countGood s) = _
    unfold takeStopScan
    rw [if_pos]
    by_contra hnot
    exact hauto ((anyAuto_false_iff (countGood s)).mp (Bool.not_eq_true _ ▸ hnot))

/-! ## The supply measurement -/

/-- A leg that the supply's fall finds: driven, it rests in HOLD, and else it stays (R162). -/
def Leg.fallen (l : Leg) : Leg := if l.mode = .auto ∨ l.mode = .manual then l.restedIn .hold else l

theorem legOf_holdIfDriven_self (s : State) (d : Side) : legOf (holdIfDriven s d) d = (legOf s d).fallen := by
  unfold holdIfDriven Leg.fallen
  cases hm : (legOf s d).mode with
  | off => simp
  | hold => simp
  | auto => simp [legOf_enterMode_self]
  | manual => simp [legOf_enterMode_self]

theorem legOf_legsSupplyFall (s : State) (d : Side) : legOf (legsSupplyFall s) d = (legOf s d).fallen := by
  unfold legsSupplyFall
  cases d with
  | left =>
    rw [legOf_holdIfDriven_ne _ (by nofun), legOf_holdIfDriven_self]
    rfl
  | right =>
    rw [legOf_holdIfDriven_self, legOf_holdIfDriven_ne _ (by nofun)]
    rfl

theorem legsSupplyFall_supplyLow (s : State) : (legsSupplyFall s).legs.supplyLow = true := by
  unfold legsSupplyFall
  rw [holdIfDriven_supplyLow, holdIfDriven_supplyLow, State.setLegs_legs]

/-- The state of the supply's fall but for the notice: legs, belt and reason (R162). -/
def supplyFallen (s : State) : State :=
  hand (evaluateBelt ((legsSupplyFall s).setConveyor { (legsSupplyFall s).conveyor with supplyLow := true }))
    (.reasonAdd .supply 0)

theorem supplyFall_eq (s : State) (m : Nat) :
    supplyFall s m = post (supplyFallen s) .supplyLow (.supplyLow m) := rfl

theorem supplyFallen_conveyor (s : State) : (supplyFallen s).conveyor =
    ({ s.conveyor with supplyLow := true } : Conveyor).evaluated s.setup.conveyor := by
  have hconveyor : (legsSupplyFall s).conveyor = s.conveyor := by simp
  have hsetup : (legsSupplyFall s).setup = s.setup := setup_of_store (by simp)
  unfold supplyFallen
  rw [evaluateBelt_eq, setConveyor_setup, hconveyor, hsetup]
  rfl

theorem evaluated_command_low {p : ConveyorSetup} {c : Conveyor} (h : c.supplyLow = true) :
    (c.evaluated p).command = 0 := (evaluated_follows p c).overridden (.inr (.inl h))

theorem supplyFall_fields (s : State) (m : Nat) :
    (supplyFall s m).legs = (legsSupplyFall s).legs ∧
      (supplyFall s m).conveyor = ({ s.conveyor with supplyLow := true } : Conveyor).evaluated s.setup.conveyor ∧
      .reasonAdd .supply 0 ∈ (supplyFall s m).handed := by
  have hoff := offLine_post (supplyFallen s) .supplyLow (.supplyLow m)
  rw [supplyFall_eq, hoff]
  refine ⟨rfl, supplyFallen_conveyor s, ?_⟩
  unfold supplyFallen hand
  simp

theorem takeMeasurement_fall {s : State} {m : Nat} (hm : m < s.setup.limits.pair.lower) (hs : s.supply.state ≠ .low) :
    takeMeasurement s m = supplyFall (s.setSupply { state := .low, last := m }) m := by
  unfold takeMeasurement nextSupply
  simp only [hm, if_true]
  cases h : s.supply.state with
  | start => rfl
  | normal => rfl
  | low => exact absurd h hs

theorem takeMeasurement_same {s : State} {m : Nat} (h : nextSupply s.supply.state s.setup.limits.pair m = s.supply.state) :
    takeMeasurement s m = s.setSupply { s.supply with last := m } := by
  unfold takeMeasurement
  simp only [h]
  cases hs : s.supply.state <;> simp only [← hs]

theorem takeMeasurement_rise {s : State} {m : Nat} (hlow : ¬m < s.setup.limits.pair.lower)
    (hm : s.setup.limits.pair.upper < m) : takeMeasurement s m =
      (match s.supply.state with
      | .start => supplyGood (s.setSupply { state := .normal, last := m })
      | .low => supplyGood (supplyRise (s.setSupply { state := .normal, last := m }))
      | .normal => s.setSupply { state := .normal, last := m }) := by
  unfold takeMeasurement nextSupply
  simp only [hlow, hm, if_true, if_false]
  cases h : s.supply.state <;> rfl

theorem supplyGood_eq (s : State) : supplyGood s =
    s.setStore { s.store with phase := if s.store.phase = .supplyWait then .settle else s.store.phase } := by
  unfold supplyGood
  cases h : s.store.phase with
  | supplyWait => rfl
  | settle => simp only [reduceCtorEq, if_false]
  | load =>
    simp only [reduceCtorEq, if_false]
    rw [← h]
    rfl
  | done =>
    simp only [reduceCtorEq, if_false]
    rw [← h]
    rfl

theorem supplyRise_eq (s : State) : supplyRise s =
    { s with
      legs := { s.legs with supplyLow := false },
      conveyor := ({ s.conveyor with supplyLow := false } : Conveyor).evaluated s.setup.conveyor,
      handed := s.handed ++ [.reasonWithdraw .supply] } := rfl

/-- Settles O54, by the two thresholds and the state the Supply Watch was in. -/
theorem supplyMeasurementJudged : Obligations.SupplyMeasurementJudged := by
  unfold Obligations.SupplyMeasurementJudged
  intro mv m s hload hm
  have hexec : exec (.supplyMeasurement mv) s = .next (takeMeasurement s m) := by
    change execSupplyMeasurement mv s = _
    unfold execSupplyMeasurement
    rw [if_neg hload, hm]
    rfl
  rw [hexec]
  refine ⟨fun hlow hhigh => ?_, fun hlow hstate => ?_, fun hlow hstate => ?_, fun hhigh hpair => ?_⟩
  · rw [takeMeasurement_same]
    · rfl
    · unfold nextSupply
      rw [if_neg (Nat.not_lt.mpr hlow), if_neg (Nat.not_lt.mpr hhigh)]
  · rw [takeMeasurement_same]
    · rfl
    · unfold nextSupply
      rw [if_pos hlow, hstate]
  · rw [takeMeasurement_fall hlow hstate]
    obtain ⟨hlegs, hconveyor, hhanded⟩ := supplyFall_fields (s.setSupply { state := .low, last := m }) m
    have hposted := supplyFall_posted (s.setSupply { state := .low, last := m }) m
    have hleg := legOf_legsSupplyFall (s.setSupply { state := .low, last := m })
    have hlowLegs := legsSupplyFall_supplyLow (s.setSupply { state := .low, last := m })
    rw [← hlegs] at hlowLegs
    have hleg' (d : Side) : legOf (supplyFall (s.setSupply { state := .low, last := m }) m) d = (legOf s d).fallen := by
      unfold legOf
      rw [hlegs]
      exact hleg d
    refine ⟨_, rfl, by simp, hlowLegs, by rw [hconveyor]; rfl, by rw [hconveyor]; exact evaluated_command_low rfl,
      by rw [hconveyor]; rfl, hhanded, (hposted.latched .supplyLow).trans (by simp), by
        rw [hconveyor]
        exact evaluated_follows _ _, fun d hd => ?_, fun d hd => ?_, by simp, by simp, by simp, by simp, by simp, by simp⟩
    · rw [hleg', Leg.fallen, if_pos hd]
    · rw [hleg', Leg.fallen, if_neg]
      rcases hd with hd | hd <;> simp [hd]
  · rw [takeMeasurement_rise (by omega) hhigh]
    cases hstate : s.supply.state with
    | start =>
      simp only [supplyGood_eq]
      exact ⟨_, rfl, rfl, by simp, nofun, fun _ => ⟨rfl, rfl, rfl⟩, rfl, rfl, rfl, rfl⟩
    | low =>
      simp only [supplyGood_eq, supplyRise_eq]
      exact ⟨_, rfl, rfl, by simp, fun _ => ⟨rfl, rfl, by simp, evaluated_follows _ _⟩, fun h => absurd rfl h, rfl, rfl, rfl,
        rfl⟩
    | normal =>
      exact ⟨_, rfl, rfl, by simp, nofun, fun _ => ⟨rfl, rfl, rfl⟩, rfl, rfl, rfl, rfl⟩

end Sys2Proof.Machine
end

section
/-! The obstacle table's requests (R69 to R71). -/

namespace Sys2Proof.Machine

open Sys2Proof

/-! ## Add Obstacle -/

theorem contains_iff {o : Obstacle} {x : Nat} : o.contains x = true ↔ o.start ≤ x ∧ x < o.start + o.length := decide_eq_true_iff

theorem aheadOf_iff {o : Obstacle} {x : Nat} {dir : Direction} : o.aheadOf x dir = true ↔
    (dir = .forward ∧ x < o.start ∨ dir = .reverse ∧ o.start + o.length ≤ x) := by
  have hdecide (p : Prop) [Decidable p] : decide p = true ↔ p := decide_eq_true_iff
  cases dir with
  | forward => simp [Obstacle.aheadOf]
  | reverse =>
    simp only [reduceCtorEq, false_and, true_and, false_or]
    exact hdecide _

theorem farAbove_iff {o : Obstacle} {x : Nat} : o.farAbove x = true ↔ x + 5000 < o.start := by
  simp [Obstacle.farAbove]

theorem farBelow_iff {o : Obstacle} {x : Nat} : o.farBelow x = true ↔ o.start + o.length - 1 + 5000 < x :=
  decide_eq_true_iff

/-- The first state of an entry that waits for its approach, in the statement's words (R70). -/
theorem firstState_eq {o : Obstacle} {x : Nat} {dir : Direction} (hstate : o.state = .pending) :
    o.firstState x dir =
      if o.start ≤ x ∧ x < o.start + o.length then { o with state := .inside, passage := .opened }
      else if dir = .forward ∧ x < o.start ∨ dir = .reverse ∧ o.start + o.length ≤ x then o
      else if x + 5000 < o.start then { o with state := .passed, crossed := true }
      else { o with state := .depart, crossed := true } := by
  have hpending : ({ o with state := .pending } : Obstacle) = o := by rw [← hstate]
  unfold Obstacle.firstState
  simp only [contains_iff, aheadOf_iff, farAbove_iff, hpending]
  split_ifs <;> rfl

/-- An entry that passes every check of R69. -/
theorem obstacleRefusal_pass {s : State} {o : Obstacle} (htail : o.start + o.length ≤ maxStation)
    (hid : ∀ h ∈ s.obstacles, h.id ≠ o.id) (hroom : s.obstacles.length < 24)
    (hpast : s.travel.station ≤ o.start + o.length - 1 + 5000) : obstacleRefusal s o = none := by
  have hnear : ¬o.farBelow s.travel.station = true := mt farBelow_iff.mp (Nat.not_lt.mpr hpast)
  unfold obstacleRefusal Obstacle.endStation
  rw [if_neg (Nat.not_lt.mpr htail), if_neg (by simpa using hid), if_neg (Nat.not_le.mpr hroom), if_neg hnear]

/-- The first check of R69 after the fields that an entry fails. -/
theorem obstacleRefusal_fail {s : State} {o : Obstacle} {a : Answer}
    (h : maxStation < o.start + o.length ∧ a = refuse .badField .length ∨
      o.start + o.length ≤ maxStation ∧ (∃ h ∈ s.obstacles, h.id = o.id) ∧ a = refuseValue .duplicate o.id ∨
      o.start + o.length ≤ maxStation ∧ (∀ h ∈ s.obstacles, h.id ≠ o.id) ∧ 24 ≤ s.obstacles.length ∧
        a = refuseValue .noRoom s.obstacles.length ∨
      o.start + o.length ≤ maxStation ∧ (∀ h ∈ s.obstacles, h.id ≠ o.id) ∧ s.obstacles.length < 24 ∧
        o.start + o.length - 1 + 5000 < s.travel.station ∧ a = refuseValue .past s.travel.station) :
    obstacleRefusal s o = some a := by
  unfold obstacleRefusal Obstacle.endStation
  rcases h with ⟨h1, rfl⟩ | ⟨h1, h2, rfl⟩ | ⟨h1, h2, h3, rfl⟩ | ⟨h1, h2, h3, h4, rfl⟩
  · rw [if_pos h1]
  · rw [if_neg (Nat.not_lt.mpr h1), if_pos (by simpa using h2)]
  · rw [if_neg (Nat.not_lt.mpr h1), if_neg (by simpa using h2), if_pos h3]
  · rw [if_neg (Nat.not_lt.mpr h1), if_neg (by simpa using h2), if_neg (Nat.not_le.mpr h3),
      if_pos (farBelow_iff.mpr h4)]

theorem sideMask_isSome (n : Nat) : (SideMask.ofCode n).isSome = decide (1 ≤ n ∧ n ≤ 3) := by
  match n with
  | 0 | 1 | 2 | 3 => rfl
  | n + 4 => simp [SideMask.ofCode]

theorem obstacleFieldChecks_eq (w : ObstacleWire) : obstacleFieldChecks w =
    [(0, decide (1 ≤ w.id.toNat)), (4, decide (1 ≤ w.length.toNat ∧ w.length.toNat ≤ 5000)),
      (6, decide (w.cap.toNat ≤ 3500)), (8, decide (1 ≤ w.q.toNat ∧ w.q.toNat ≤ 50)),
      (9, decide (1 ≤ w.mask.toNat ∧ w.mask.toNat ≤ 3)),
      (10, decide (w.flags.getLsbD 0 = true → w.tolerance.toNat ≤ 200))] := by
  have hflag : (!w.flags.getLsbD 0 || decide (w.tolerance.toNat ≤ 200)) =
      decide (w.flags.getLsbD 0 = true → w.tolerance.toNat ≤ 200) := by
    cases w.flags.getLsbD 0 <;> simp
  unfold obstacleFieldChecks
  rw [sideMask_isSome, hflag]

theorem takeAddObstacle_of_bad {s : State} {w : ObstacleWire} {off : Nat} (h : firstBad (obstacleFieldChecks w) = some off) :
    takeAddObstacle w s = (s, refuseField off) := by
  unfold takeAddObstacle
  simp only [h]

theorem takeAddObstacle_of_refused {s : State} {w : ObstacleWire} {mask : SideMask} {a : Answer}
    (h : firstBad (obstacleFieldChecks w) = none) (hm : SideMask.ofCode w.mask.toNat = some mask)
    (hr : obstacleRefusal s (obstacleOfWire w mask) = some a) : takeAddObstacle w s = (s, a) := by
  unfold takeAddObstacle
  simp only [h, hm, hr]

theorem takeAddObstacle_of_good {s : State} {w : ObstacleWire} {mask : SideMask} {e : Obstacle}
    (h : firstBad (obstacleFieldChecks w) = none) (hm : SideMask.ofCode w.mask.toNat = some mask)
    (hr : obstacleRefusal s (obstacleOfWire w mask) = none)
    (he : (obstacleOfWire w mask).firstState s.travel.station s.travel.dir = e) : takeAddObstacle w s =
      (s.setObstacles (insertObstacle e s.obstacles), answer .done [u8 e.state.code, u8 (s.obstacles.length + 1)]) := by
  unfold takeAddObstacle
  simp only [h, hm, hr, he]

/-! ## Remove Obstacle -/

theorem coveredAuto_iff (s : State) (o : Obstacle) :
    coveredAuto s o = true ↔ ∃ d, o.covers d = true ∧ (legOf s d).mode = .auto := by
  unfold coveredAuto
  simp only [Bool.or_eq_true, Bool.and_eq_true, beq_iff_eq]
  refine ⟨fun h => h.elim (fun h => ⟨.left, h⟩) fun h => ⟨.right, h⟩, fun ⟨d, h⟩ => ?_⟩
  cases d with
  | left => exact .inl h
  | right => exact .inr h

/-- Settles O35: the checks of R69 in their order, the first state of R70, and the removal of R71. -/
theorem obstacleAddedAndRemoved : Obligations.ObstacleAddedAndRemoved := by
  unfold Obligations.ObstacleAddedAndRemoved
  intro tag s hs
  refine ⟨fun w mask o e hm ho hid hl hl' hcap hq hq' htol htail hnew hroom hpast he => ?_,
    fun w fields a tail htail hfields h => ?_, fun id hid => ?_, fun id o hfind hfree => ?_,
    fun id o d hfind hinside hcovers hauto => ?_⟩
  · have hgood : firstBad (obstacleFieldChecks w) = none := by
      rw [firstBad_none, obstacleFieldChecks_eq]
      have hmask : 1 ≤ w.mask.toNat ∧ w.mask.toNat ≤ 3 := by
        simpa [hm] using (sideMask_isSome w.mask.toNat).symm
      have htol' : w.flags.getLsbD 0 = true → w.tolerance.toNat ≤ 200 := fun hflag =>
        htol _ (by rw [ho, obstacleOfWire, if_pos hflag])
      subst ho
      simp only [List.forall_mem_cons, decide_eq_true_eq]
      exact ⟨hid, ⟨hl, hl'⟩, hcap, ⟨hq, hq'⟩, hmask, htol', nofun⟩
    have hpending : o.state = .pending := by rw [ho, obstacleOfWire]
    rw [← firstState_eq hpending] at he
    have htaken : takeRequest (.addObstacle w) (countGood s) =
        ((countGood s).setObstacles (insertObstacle e s.obstacles),
          answer .done [u8 e.state.code, u8 (s.obstacles.length + 1)]) := by
      change takeAddObstacle w (countGood s) = _
      subst ho
      exact takeAddObstacle_of_good (s := countGood s) hgood hm
        (obstacleRefusal_pass (s := countGood s) htail hnew hroom hpast) he.symm
    have hnext := exec_answered (i := .addObstacle tag w) rfl hs htaken
    exact ⟨_, hnext, rfl, perm_insertObstacle e s.obstacles⟩
  · refine exec_refused (i := .addObstacle tag w) rfl hs ?_
    change takeAddObstacle w (countGood s) = _
    rw [← obstacleFieldChecks_eq] at hfields
    subst hfields htail
    rcases h with ⟨off, hbad, rfl⟩ | ⟨hgood, h⟩
    · exact takeAddObstacle_of_bad ((firstBad_iff _ _).mpr hbad)
    · have hmask : (SideMask.ofCode w.mask.toNat).isSome = true :=
        hgood (9, (SideMask.ofCode w.mask.toNat).isSome) (by simp [obstacleFieldChecks])
      obtain ⟨mask, hm⟩ := Option.isSome_iff_exists.mp hmask
      exact takeAddObstacle_of_refused ((firstBad_none _).mpr hgood) hm
        (obstacleRefusal_fail (s := countGood s) (o := obstacleOfWire w mask) h)
  · refine exec_refused (i := .removeObstacle tag id) rfl hs ?_
    change takeRemoveObstacle id (countGood s) = _
    have hnone : (countGood s).obstacles.find? (fun o => o.id == id.toNat) = none := by
      simpa using hid
    unfold takeRemoveObstacle
    simp only [hnone]
  · have hfree' : ¬(o.state = .inside ∧ coveredAuto (countGood s) o = true) := by
      rintro ⟨hin, hcov⟩
      obtain ⟨d, hd, hauto⟩ := (coveredAuto_iff _ _).mp hcov
      exact hfree.elim (fun h => h hin) fun h => h d hd hauto
    have htaken : takeRequest (.removeObstacle id) (countGood s) =
        ((countGood s).setObstacles (s.obstacles.filter fun p => p.id != id.toNat),
          answer .done [u8 (s.obstacles.filter fun p => p.id != id.toNat).length]) := by
      change takeRemoveObstacle id (countGood s) = _
      unfold takeRemoveObstacle
      simp only [show (countGood s).obstacles.find? (fun o => o.id == id.toNat) = some o from hfind, if_neg hfree']
      rfl
    exact exec_answered (i := .removeObstacle tag id) rfl hs htaken
  · refine exec_refused (i := .removeObstacle tag id) rfl hs ?_
    change takeRemoveObstacle id (countGood s) = _
    unfold takeRemoveObstacle
    simp only [show (countGood s).obstacles.find? (fun o => o.id == id.toNat) = some o from hfind,
      if_pos (show o.state = .inside ∧ coveredAuto (countGood s) o = true from
        ⟨hinside, (coveredAuto_iff _ _).mpr ⟨d, hcovers, hauto⟩⟩)]

end Sys2Proof.Machine
end

section
/-! The program operations: what a change of the list or of the station leaves, hands and posts (R43 to R49). -/

namespace Sys2Proof.Machine

open Sys2Proof

/-! ## Occurrences -/

def doneOccurs (x : Nat) (done : Option Segment) : List Occurrence :=
  done.toList.map fun g => ⟨.segmentDone, x, .segmentDone g.id⟩

def positionOccurs (x : Nat) (old new : Position) : List Occurrence :=
  match new with
  | .gap g next => if old.code = 3 then [] else [⟨.programGap, x, .programGap g.id next⟩]
  | .beyond g => if old.code = 4 then [] else [⟨.programEnd, x, .programEnd g.id g.endStation g.endStop⟩]
  | _ => []

def lowOccurs (x : Nat) (low : Option Nat) (threshold : LowWater) : List Occurrence :=
  low.toList.map fun n => ⟨.programLow, x, .programLow n threshold⟩

theorem tells_nil (x : Nat) : Tells [] x fun _ => none := ⟨nofun, List.nodup_nil, fun _ => rfl⟩

/-- The occurrences of a station change or an edit of the list, in the statement's words (R45 to R49). -/
theorem tells_program (x : Nat) (old new : Position) (done : Option Segment) (low : Option Nat)
    (threshold : LowWater) :
    Tells (doneOccurs x done ++ positionOccurs x old new ++ lowOccurs x low threshold) x
      (programTold old new done low threshold) := by
  have hdone : Tells (doneOccurs x done) x (programTold old .empty done none threshold) := by
    cases done with
    | none => exact (tells_nil x).congr fun c => by cases c <;> rfl
    | some g =>
      exact (tells_nil x).append_one rfl rfl fun c hc => by
        cases c <;> first | rfl | exact absurd rfl hc
  have hposition : Tells (doneOccurs x done ++ positionOccurs x old new) x
      (programTold old new done none threshold) := by
    cases new with
    | gap g next =>
      unfold positionOccurs
      simp only
      by_cases hold : old.code = 3
      · rw [if_pos hold, List.append_nil]
        refine hdone.congr fun c => ?_
        cases c <;> first | rfl | exact if_pos hold
      · rw [if_neg hold]
        exact hdone.append_one rfl (if_neg hold) fun c hc => by
          cases c <;> first | rfl | exact absurd rfl hc
    | beyond g =>
      unfold positionOccurs
      simp only
      by_cases hold : old.code = 4
      · rw [if_pos hold, List.append_nil]
        refine hdone.congr fun c => ?_
        cases c <;> first | rfl | exact if_pos hold
      · rw [if_neg hold]
        exact hdone.append_one rfl (if_neg hold) fun c hc => by
          cases c <;> first | rfl | exact absurd rfl hc
    | _ =>
      unfold positionOccurs
      rw [List.append_nil]
      exact hdone.congr fun c => by cases c <;> rfl
  cases low with
  | none =>
    unfold lowOccurs
    rw [Option.toList_none, List.map_nil, List.append_nil]
    exact hposition
  | some n =>
    exact hposition.append_one rfl rfl fun c hc => by
      cases c <;> first | rfl | exact absurd rfl hc

/-! ## The low-water condition -/

/-- The low-water condition of a program with the station at x (R49). -/
def Program.low (p : Program) (x : Nat) (w : LowWater) : Bool :=
  (!p.segments.isEmpty && decide (remainingCount p.segments x ≤ w.segments)) && (p.transfer.isNone || p.lowWater)

/-- The remaining count when the condition begins (R49). -/
def Program.lowBegins (p : Program) (x : Nat) (w : LowWater) : Option Nat :=
  if p.low x w && !p.lowWater then some (remainingCount p.segments x) else none

theorem lowWaterPosts_eq (s : State) : lowWaterPosts s = lowOccurs s.travel.station
    (s.program.lowBegins s.travel.station s.setup.control.lowWater) s.setup.control.lowWater := by
  unfold lowWaterPosts Program.lowBegins
  have hbegins : lowWaterBegins s =
      (s.program.low s.travel.station s.setup.control.lowWater && !s.program.lowWater) := rfl
  rw [hbegins]
  split <;> rfl

theorem offLine_evaluateLowWater (s : State) : OffLine
    (s.setProgram { s.program with lowWater := s.program.low s.travel.station s.setup.control.lowWater })
    (evaluateLowWater s) := by
  unfold evaluateLowWater
  simp only
  have hlow : (lowWaterNow s && (s.program.transfer.isNone || s.program.lowWater)) =
      s.program.low s.travel.station s.setup.control.lowWater := rfl
  rw [hlow]
  split
  · exact offLine_post _ _ _
  · exact OffLine.refl _

/-! ## The position -/

/-- What a new position hands: the reason of an end-stop (R48). -/
def positionHands (old new : Position) : List Instr :=
  match new with
  | .beyond g => if old.code = 4 then [] else if g.endStop then [.reasonAdd .programEnd 0] else []
  | _ => []

theorem positionPosts_eq (s : State) (old : Position) :
    positionPosts s old = positionOccurs s.travel.station old (position s) := by
  unfold positionPosts positionOccurs
  cases position s <;> rfl

theorem offLine_notePosition (s : State) (old : Position) :
    OffLine (s.setHanded (s.handed ++ positionHands old (position s))) (notePosition s old) := by
  unfold notePosition positionHands
  cases position s with
  | gap g next =>
    simp only [List.append_nil]
    split
    · exact OffLine.refl s
    · exact offLine_post s _ _
  | beyond g =>
    simp only
    split
    · rw [List.append_nil]
      exact OffLine.refl s
    · split
      · have h := offLine_post s .programEnd (.programEnd g.id g.endStation g.endStop)
        generalize post s .programEnd (.programEnd g.id g.endStation g.endStop) = t at h ⊢
        rw [h]
        rfl
      · rw [List.append_nil]
        exact offLine_post s _ _
  | _ =>
    simp only [List.append_nil]
    exact OffLine.refl s

/-! ## The list edited -/

/-- The position noted and the low-water condition evaluated on a list just changed (R47 to R49). -/
def settleProgram (s : State) (old : Position) : State := evaluateLowWater (notePosition s old)

/-- What the settled program leaves. -/
theorem offLine_settleProgram (s : State) (old : Position) : OffLine
    ((s.setProgram { s.program with lowWater := s.program.low s.travel.station s.setup.control.lowWater }).setHanded
      (s.handed ++ positionHands old (position s))) (settleProgram s old) := by
  have hposition := offLine_notePosition s old
  have hlow := offLine_evaluateLowWater (notePosition s old)
  unfold settleProgram
  generalize notePosition s old = u at hposition hlow
  generalize s.handed ++ positionHands old (position s) = hands at hposition ⊢
  generalize evaluateLowWater u = v at hlow
  unfold OffLine at *
  rw [hlow, hposition]
  rfl

theorem settleProgram_posted (s : State) (old : Position) : Posted s (settleProgram s old)
    (positionOccurs s.travel.station old (position s) ++ lowOccurs s.travel.station
      (s.program.lowBegins s.travel.station s.setup.control.lowWater) s.setup.control.lowWater) := by
  have h := (notePosition_posted s old).trans (evaluateLowWater_posted (notePosition s old))
  have hoff := offLine_notePosition s old
  have hsame : (notePosition s old).program = s.program ∧ (notePosition s old).travel = s.travel ∧
      (notePosition s old).setup = s.setup := by
    unfold OffLine at hoff
    rw [hoff]
    exact ⟨rfl, rfl, rfl⟩
  rw [lowWaterPosts_eq, hsame.1, hsame.2.1, hsame.2.2, positionPosts_eq] at h
  exact h

/-! ## Answers -/

/-- A request whose owner posts at most one occurrence of a class, answered (R172 to R176). -/
theorem exec_owned {i : Instr} {tag : Byte} {r : Request} {s u : State} {l : List Occurrence} {a : Answer}
    {told : NoticeClass → Option NoticeDetail} {x : Nat} (hi : i.request? = some (tag, r)) (hs : Listening s)
    (hscreen : screenKind s r.kind = none) (h : Owned (takeRequest r) (countGood s) u l a) (hl : Tells l x told)
    (hr : r ≠ .linkReset := by nofun) :
    ∃ t n k f, exec i s = .next t ∧ t = { u with notices := n, link := k, freeCount := f } ∧
      AnsweredTold s t (replyTo tag r a) x told := by
  have hexec : exec i s = .next (respond r.kind tag (takeRequest r) (countGood s)) := by
    rw [exec_of_request hi, arrive_of_screened s tag r hs hscreen hr]
  obtain ⟨n, k, f, ht⟩ := h.respond_blocks (kind := r.kind) (tag := tag)
  exact ⟨_, n, k, f, hexec, ht, h.answeredTold hl hs.2.2⟩

/-- The requests that act in an open phase pass the screen (R174). -/
theorem screenKind_inPhase {s : State} {r : Request} (hstore : s.store.storing = none)
    (h : passesTransfer r.kind = true) : screenKind s r.kind = none :=
  screenKind_passed (isRequestKind_kind r) fun hbusy => (screenedBusy_iff s r.kind).mp hbusy |>.elim
    (fun hb => by simp [hstore] at hb) fun hb => by simp [h] at hb

theorem screenKind_accepting {s : State} {r : Request} (hs : Accepting s) : screenKind s r.kind = none :=
  screenKind_unscreened _ _ hs.2

end Sys2Proof.Machine
end

section
/-! The transfer phase (R50 to R57). -/

namespace Sys2Proof.Machine

open Sys2Proof

/-! ## Opening -/

theorem takeLoadSegments_opens {s : State} {count : Byte} {n : Nat}
    (hn : n = if count.toNat = 0 then 16 else count.toNat) (h16 : n ≤ 16)
    (hroom : s.program.segments.length + n ≤ 104) :
    takeLoadSegments count s = (setTransfer s (some { announced := n, accepted := 0 }),
      answer .ready [u8 n, u8 (104 - s.program.segments.length)]) := by
  unfold takeLoadSegments freeSegments
  simp only [← hn]
  rw [if_neg (Nat.not_lt.mpr h16), if_neg (by omega)]

theorem takeLoadSegments_refused {s : State} {count : Byte} {n : Nat} {a : Answer}
    (hn : n = if count.toNat = 0 then 16 else count.toNat)
    (h : 16 < n ∧ a = refuse .badField .count ∨
      n ≤ 16 ∧ 104 < s.program.segments.length + n ∧ a = refuseValue .noRoom (104 - s.program.segments.length : Nat)) :
    takeLoadSegments count s = (s, a) := by
  have hpos : 0 < n := by split at hn <;> omega
  unfold takeLoadSegments freeSegments
  simp only [← hn]
  rcases h with ⟨h16, rfl⟩ | ⟨h16, hroom, rfl⟩
  · rw [if_pos h16]
  · rw [if_neg (Nat.not_lt.mpr h16), if_pos (by omega)]

/-! ## Closing -/

/-- The program with its phase closed (R55, R56). -/
def Program.closed (p : Program) (low : Bool) : Program := { p with transfer := none, lowWater := low }

theorem closed_low {p : Program} {x : Nat} {w : LowWater} {low : Bool} (ho : SegmentsOrdered p.segments)
    (h : low = true ↔ fewRemain p.segments x w.segments) : ({ p with transfer := none } : Program).low x w = low := by
  unfold Program.low
  rw [Bool.eq_iff_iff, h, fewRemain, remainingCount_eq ho]
  simp

theorem closed_lowBegins {p : Program} {x : Nat} {w : LowWater} {low : Bool} (ho : SegmentsOrdered p.segments)
    (h : low = true ↔ fewRemain p.segments x w.segments) :
    ({ p with transfer := none } : Program).lowBegins x w =
      if low = true ∧ p.lowWater = false then some (remainingAt p.segments x) else none := by
  unfold Program.lowBegins
  rw [closed_low ho h, remainingCount_eq ho]
  simp

theorem tells_low (x : Nat) (low : Option Nat) (w : LowWater) : Tells (lowOccurs x low w) x
    fun c => if c = .programLow then low.map fun n => .programLow n w else none :=
  (tells_program x .empty .empty none low w).congr fun c => by cases c <;> rfl

/-- What an owner leaves that closes the phase and evaluates the low-water condition (R53, R56). -/
theorem owned_closing {s : State} {take : State → State × Answer} {a : Answer}
    (h : ∀ v, take (s.setLink v) = (evaluateLowWater (setTransfer (s.setLink v) none), a)) :
    Owned take s
      (s.setProgram (s.program.closed
        (({ s.program with transfer := none } : Program).low s.travel.station s.setup.control.lowWater)))
      (lowOccurs s.travel.station
        (({ s.program with transfer := none } : Program).lowBegins s.travel.station s.setup.control.lowWater)
        s.setup.control.lowWater) a := by
  refine ⟨fun v => ?_, fun v => ?_, fun v => by rw [h]⟩
  · rw [h]
    have h := evaluateLowWater_posted (setTransfer (s.setLink v) none)
    rw [lowWaterPosts_eq] at h
    exact h.before rfl rfl rfl
  · rw [h]
    have h := offLine_evaluateLowWater (setTransfer (s.setLink v) none)
    generalize evaluateLowWater _ = w at h
    unfold OffLine at *
    rw [h]
    rfl

theorem owned_abortTransfer {s : State} {tr : Transfer} (htr : s.program.transfer = some tr) :
    Owned takeAbortTransfer s
      (s.setProgram (s.program.closed
        (({ s.program with transfer := none } : Program).low s.travel.station s.setup.control.lowWater)))
      (lowOccurs s.travel.station
        (({ s.program with transfer := none } : Program).lowBegins s.travel.station s.setup.control.lowWater)
        s.setup.control.lowWater)
      (answer .aborted [u8 tr.accepted, u8 s.program.segments.length]) := by
  refine owned_closing fun v => ?_
  unfold takeAbortTransfer
  simp only [show (s.setLink v).program.transfer = some tr from htr]
  rfl

theorem evaluateLowWater_eq (s : State) : evaluateLowWater s =
    if s.program.low s.travel.station s.setup.control.lowWater && !s.program.lowWater then
      post (s.setProgram { s.program with lowWater := s.program.low s.travel.station s.setup.control.lowWater })
        .programLow (.programLow (remainingCount s.program.segments s.travel.station) s.setup.control.lowWater)
    else s.setProgram { s.program with lowWater := s.program.low s.travel.station s.setup.control.lowWater } := rfl

/-- The item timer's end, where the line never waits (R55). -/
theorem exec_itemTimerExpiry {s : State} {tr : Transfer} {low : Bool} (hs : LineInv s)
    (htr : s.program.transfer = some tr) (ho : SegmentsOrdered s.program.segments)
    (hlow : low = true ↔ fewRemain s.program.segments s.travel.station s.setup.control.lowWater.segments) {u : State}
    (hu : u = State.occurred (s.setProgram (s.program.closed low)) .transferTimeout s.travel.station
      (.transferTimeout tr.accepted tr.announced)) :
    exec .itemTimerExpiry s = .next
      (if low = true ∧ s.program.lowWater = false then
        State.occurred u .programLow s.travel.station
          (.programLow (remainingAt s.program.segments s.travel.station) s.setup.control.lowWater)
      else u) := by
  have hexec : exec .itemTimerExpiry s = .next (evaluateLowWater
      (post (setTransfer s none) .transferTimeout (.transferTimeout tr.accepted tr.announced))) := by
    change execItemTimerExpiry s = _
    unfold execItemTimerExpiry
    simp only [htr]
  have hs' : LineInv (setTransfer s none) := ⟨hs.1, hs.2.1, hs.2.2⟩
  have hpost : post (setTransfer s none) .transferTimeout (.transferTimeout tr.accepted tr.announced) =
      State.occurred (setTransfer s none) .transferTimeout s.travel.station
        (.transferTimeout tr.accepted tr.announced) := postAt_eq _ _ _ _ hs'
  have hline := lineInv_postAt hs' .transferTimeout s.travel.station (.transferTimeout tr.accepted tr.announced)
  rw [postAt_eq _ _ _ _ hs'] at hline
  rw [hexec, hpost]
  have hu' : u = (State.occurred (setTransfer s none) .transferTimeout s.travel.station
      (.transferTimeout tr.accepted tr.announced)).setProgram (s.program.closed low) := hu
  have hline' : LineInv u := hu' ▸ ⟨hline.1, hline.2.1, hline.2.2⟩
  have hprogram : (State.occurred (setTransfer s none) .transferTimeout s.travel.station
      (.transferTimeout tr.accepted tr.announced)).program = { s.program with transfer := none } := rfl
  have hsetup : (State.occurred (setTransfer s none) .transferTimeout s.travel.station
      (.transferTimeout tr.accepted tr.announced)).setup = s.setup := rfl
  have htravel : (State.occurred (setTransfer s none) .transferTimeout s.travel.station
      (.transferTimeout tr.accepted tr.announced)).travel = s.travel := rfl
  have hut : u.travel = s.travel := by rw [hu]; rfl
  rw [evaluateLowWater_eq, hprogram, hsetup, htravel, closed_low ho hlow, remainingCount_eq ho]
  change Host.Outcome.next (if (low && !s.program.lowWater) = true then post ((State.occurred (setTransfer s none)
    .transferTimeout s.travel.station (.transferTimeout tr.accepted tr.announced)).setProgram (s.program.closed low)) _ _
    else (State.occurred (setTransfer s none) .transferTimeout s.travel.station
      (.transferTimeout tr.accepted tr.announced)).setProgram (s.program.closed low)) = _
  rw [← hu']
  unfold post
  rw [postAt_eq _ _ _ _ hline', hut]
  congr 1
  cases low <;> cases s.program.lowWater <;> simp

/-- Settles O32: the opening by R50's checks, and both closings with the low-water condition. -/
theorem transferOpensAndCloses : Obligations.TransferOpensAndCloses := by
  unfold Obligations.TransferOpensAndCloses
  intro tag s
  refine ⟨fun count n hs hn => ⟨fun h16 hroom => ?_, fun a h => ?_⟩, fun hs hstore htr => ?_,
    fun tr low n posted hinv htr hn hlow hposted => ⟨fun hs hstore => ?_, fun u hline hu => ?_⟩⟩
  · exact exec_answered (i := .loadSegments tag count) rfl hs (takeLoadSegments_opens (s := countGood s) hn h16 hroom)
  · exact exec_refused (i := .loadSegments tag count) rfl hs (takeLoadSegments_refused (s := countGood s) hn h)
  · have htaken : takeRequest .abortTransfer (countGood s) = (countGood s, refuse .notAllowed .noTransfer) := by
      change takeAbortTransfer (countGood s) = _
      unfold takeAbortTransfer
      simp only [show (countGood s).program.transfer = none from htr]
    rw [exec_of_request (i := .abortTransfer tag) rfl, arrive_quiet_of_screened s tag .abortTransfer hs
      (screenKind_inPhase hstore rfl) (by nofun) (by rw [htaken]), htaken]
    rfl
  · have ho := hinv.ordered
    have howned := owned_abortTransfer (s := countGood s) htr
    have hlow' : ({ s.program with transfer := none } : Program).low s.travel.station s.setup.control.lowWater = low :=
      closed_low ho hlow
    have hbegins := closed_lowBegins (p := s.program) ho hlow
    obtain ⟨t, n', k, f, hexec, ht, hanswered⟩ := exec_owned (i := .abortTransfer tag) rfl hs
      (screenKind_inPhase hstore rfl) howned (tells_low _ _ _)
    refine ⟨t, hexec, ?_, ?_⟩
    · subst ht hlow'
      rfl
    · have hposted' : posted = (({ s.program with transfer := none } : Program).lowBegins s.travel.station
          s.setup.control.lowWater).map fun n => .programLow n s.setup.control.lowWater := by
        rw [hbegins, hposted, hn]
        split <;> rfl
      rw [hposted']
      exact hanswered
  · rw [exec_itemTimerExpiry hline htr hinv.ordered hlow hu, hposted, hn]
    split <;> rfl

end Sys2Proof.Machine
end

section
/-! Segment records (R51 to R54). -/

namespace Sys2Proof.Machine

open Sys2Proof

/-! ## The checks of a record -/

theorem firstBad_cons_not (off : Nat) (bad : Bool) (rest : List (Nat × Bool)) :
    firstBad ((off, !bad) :: rest) = if bad = true then some off else firstBad rest := by
  cases bad <;> simp [firstBad]

theorem firstBad_cons_true (off : Nat) (rest : List (Nat × Bool)) : firstBad ((off, true) :: rest) = firstBad rest := by
  simp [firstBad]

/-- The first field out of its values, in the statement's words (R51, check 1). -/
def Segment.badField (g : Segment) : Option Nat :=
  if g.id = 0 then some 0 else if g.length = 0 ∨ 100000 < g.length then some 5
  else if 3500 < g.depth then some 8 else if g.grade < -500 ∨ 500 < g.grade then some 10
  else if g.slope.any (fun v => v < -1000 ∨ 1000 < v) then some 12 else none

theorem fieldChecks_eq (g : Segment) : g.fieldChecks =
    [(0, decide (1 ≤ g.id ∧ g.id ≤ 65535)), (2, decide (g.start ≤ maxStation)),
      (5, decide (1 ≤ g.length ∧ g.length ≤ 100000)), (8, decide (g.depth ≤ 3500)),
      (10, decide (-500 ≤ g.grade ∧ g.grade ≤ 500)),
      (12, !g.slope.any fun v => decide (v < -1000 ∨ 1000 < v))] := by
  unfold Segment.fieldChecks
  cases g.slope with
  | none => rfl
  | some v =>
    have hslope : decide (-1000 ≤ v ∧ v ≤ 1000) = !decide (v < -1000 ∨ 1000 < v) := by
      rw [← decide_not, decide_eq_decide]
      omega
    simp only [Option.any_some, hslope]

theorem firstBad_fieldChecks {g : Segment} (hid : g.id ≤ 65535) (hstart : g.start ≤ maxStation) :
    firstBad g.fieldChecks = g.badField := by
  have hid' : decide (1 ≤ g.id ∧ g.id ≤ 65535) = !decide (g.id = 0) := by
    rw [← decide_not, decide_eq_decide]
    omega
  have hlength : decide (1 ≤ g.length ∧ g.length ≤ 100000) = !decide (g.length = 0 ∨ 100000 < g.length) := by
    rw [← decide_not, decide_eq_decide]
    omega
  have hdepth : decide (g.depth ≤ 3500) = !decide (3500 < g.depth) := by
    rw [← decide_not, decide_eq_decide]
    omega
  have hgrade : decide (-500 ≤ g.grade ∧ g.grade ≤ 500) = !decide (g.grade < -500 ∨ 500 < g.grade) := by
    rw [← decide_not, decide_eq_decide]
    omega
  unfold Segment.badField
  rw [fieldChecks_eq, hid', hlength, hdepth, hgrade, decide_eq_true hstart]
  simp only [firstBad_cons_not, firstBad_cons_true, decide_eq_true_eq]
  rfl

theorem wire_fits (r : SegmentWire) : (SegmentWire.segment r).id ≤ 65535 ∧ (SegmentWire.segment r).start ≤ maxStation :=
  ⟨Nat.le_of_lt_succ r.id.isLt, Nat.le_of_lt_succ r.start.isLt⟩

/-- A record whose checks after the fields all pass (R51). -/
theorem segmentRefusal_pass {s : State} {g : Segment} (hfields : firstBad g.fieldChecks = none)
    (hreach : g.endStation ≤ maxStation) (hdeep : 0 ≤ g.endDepth ∧ g.endDepth ≤ 3500)
    (hid : ∀ h ∈ s.program.segments, h.id ≠ g.id) (hoverlap : lastEnd s.program.segments ≤ g.start)
    (hpast : s.travel.station < g.endStation) : segmentRefusal s g = none := by
  unfold segmentRefusal
  rw [hfields]
  simp only
  rw [if_neg (Nat.not_lt.mpr hreach), if_neg (by omega), if_neg (by simpa using hid),
    if_neg (Nat.not_lt.mpr hoverlap), if_neg (Nat.not_le.mpr hpast)]

theorem answer_eq {a b : Answer} (hc : a.code = b.code) (hd : a.detail = b.detail) (hv : a.value = b.value) :
    some b = some { a with fields := b.fields } := by
  rw [hc, hd, hv]

/-- The first check of R51 that a record fails (R51). -/
theorem segmentRefusal_fail {s : State} {g : Segment} {a : Answer} {field : Option Nat}
    {reach deep twin overlap past : Prop} (hfields : firstBad g.fieldChecks = field)
    (hreach : reach ↔ 16777215 < g.start + g.length) (hdeep : deep ↔ g.endDepth < 0 ∨ 3500 < g.endDepth)
    (htwin : twin ↔ ∃ h ∈ s.program.segments, h.id = g.id) (hoverlap : overlap ↔ g.start < lastEnd s.program.segments)
    (hpast : past ↔ g.start + g.length ≤ s.travel.station)
    (h : (∃ off : Nat, field = some off ∧ a.code = .badField ∧ a.detail = .field ∧ a.value = off) ∨
      field = none ∧
        (reach ∧ a.code = .badField ∧ a.detail = .length ∧ a.value = 0 ∨
        ¬reach ∧ deep ∧ a.code = .badField ∧ a.detail = .grade ∧ a.value = 0 ∨
        ¬reach ∧ ¬deep ∧ twin ∧ a.code = .duplicate ∧ a.detail = .value ∧ a.value = g.id ∨
        ¬reach ∧ ¬deep ∧ ¬twin ∧ overlap ∧ a.code = .overlap ∧ a.detail = .value ∧
          a.value = lastEnd s.program.segments ∨
        ¬reach ∧ ¬deep ∧ ¬twin ∧ ¬overlap ∧ past ∧ a.code = .past ∧ a.detail = .value ∧
          a.value = s.travel.station)) :
    segmentRefusal s g = some { a with fields := [] } := by
  have htwin' : (s.program.segments.any fun h => h.id == g.id) = true ↔ twin := by simp [htwin]
  unfold segmentRefusal Segment.endStation
  rw [hfields]
  rcases h with ⟨off, rfl, hc, hd, hv⟩ | ⟨rfl, h⟩
  · exact answer_eq hc hd hv
  · have hfar (h1 : ¬reach) : ¬maxStation < g.start + g.length := mt hreach.mpr h1
    rcases h with ⟨h1, hc, hd, hv⟩ | ⟨h1, h2, hc, hd, hv⟩ | ⟨h1, h2, h3, hc, hd, hv⟩ | ⟨h1, h2, h3, h4, hc, hd, hv⟩ |
      ⟨h1, h2, h3, h4, h5, hc, hd, hv⟩
    · rw [if_pos (show maxStation < g.start + g.length from hreach.mp h1)]
      exact answer_eq hc hd hv
    · rw [if_neg (hfar h1), if_pos (hdeep.mp h2)]
      exact answer_eq hc hd hv
    · rw [if_neg (hfar h1), if_neg (mt hdeep.mpr h2), if_pos (htwin'.mpr h3)]
      exact answer_eq hc hd hv
    · rw [if_neg (hfar h1), if_neg (mt hdeep.mpr h2), if_neg (mt htwin'.mp h3), if_pos (hoverlap.mp h4)]
      exact answer_eq hc hd hv
    · rw [if_neg (hfar h1), if_neg (mt hdeep.mpr h2), if_neg (mt htwin'.mp h3), if_neg (mt hoverlap.mpr h4),
        if_pos (hpast.mp h5)]
      exact answer_eq hc hd hv

/-! ## Records taken -/

/-- The position of a station short of the last end is not past the list. -/
theorem positionFrom_append_ne_beyond {p g h : Segment} {rest : List Segment} {x : Nat} (hx : x < g.endStation) :
    positionFrom p (rest ++ [g]) x ≠ .beyond h := by
  induction rest generalizing p with
  | nil =>
    unfold positionFrom
    split
    · nofun
    · simp only [List.nil_append]
      split
      · nofun
      · unfold positionFrom
        rw [if_pos hx]
        nofun
  | cons q rest ih =>
    unfold positionFrom
    split
    · nofun
    · simp only [List.cons_append]
      split
      · nofun
      · exact ih

theorem positionIn_append_ne_beyond {segs : List Segment} {g h : Segment} {x : Nat} (hx : x < g.endStation) :
    positionIn (segs ++ [g]) x ≠ .beyond h := by
  cases segs with
  | nil =>
    unfold positionIn positionFrom
    simp only [List.nil_append]
    rw [if_pos hx]
    split <;> nofun
  | cons p rest =>
    unfold positionIn
    simp only [List.cons_append]
    split
    · nofun
    · exact positionFrom_append_ne_beyond hx

theorem positionHands_of_ne_beyond {old new : Position} (h : ∀ g, new ≠ .beyond g) : positionHands old new = [] := by
  cases new with
  | beyond g => exact absurd rfl (h g)
  | _ => rfl

/-- The phase after a record taken (R52, R54). -/
def Transfer.next (tr : Transfer) : Option Transfer :=
  if tr.accepted + 1 < tr.announced then some { tr with accepted := tr.accepted + 1 } else none

/-- The program with a record appended, before the low-water condition (R52). -/
def Program.appended (p : Program) (g : Segment) (tr : Option Transfer) : Program :=
  { p with segments := p.segments ++ [g], transfer := tr }

theorem owned_segmentRecord {s : State} {r : SegmentWire} {tr : Transfer} {g : Segment} {w : LowWater} {p : Program}
    (htr : s.program.transfer = some tr) (hg : SegmentWire.segment r = g) (hrefusal : segmentRefusal s g = none)
    (hx : s.travel.station < g.endStation) (hw : s.setup.control.lowWater = w)
    (hp : s.program.appended g tr.next = p) :
    Owned (takeSegmentRecord r) s
      ((s.setProgram { p with lowWater := p.low s.travel.station w }).setHanded (s.handed ++ [.programEndAhead]))
      (doneOccurs s.travel.station none ++
        positionOccurs s.travel.station (positionIn s.program.segments s.travel.station)
          (positionIn p.segments s.travel.station) ++
        lowOccurs s.travel.station (p.lowBegins s.travel.station w) w)
      (answer .done [u8 (tr.accepted + 1), u8 (s.program.segments.length + 1),
        flag (decide (tr.accepted + 1 < tr.announced))]) := by
  have htaken (v : Link) : takeSegmentRecord r (s.setLink v) =
      (settleProgram (hand ((s.setLink v).setProgram p) .programEndAhead) (position s),
        answer .done [u8 (tr.accepted + 1), u8 (s.program.segments.length + 1),
          flag (decide (tr.accepted + 1 < tr.announced))]) := by
    have hrefusal' : segmentRefusal (s.setLink v) g = none := hrefusal
    unfold takeSegmentRecord
    simp only [show (s.setLink v).program.transfer = some tr from htr, hg, hrefusal', decide_eq_true_eq]
    subst hp
    rfl
  refine ⟨fun v => ?_, fun v => ?_, fun v => by rw [htaken]⟩
  · rw [htaken]
    have h := settleProgram_posted (hand ((s.setLink v).setProgram p) .programEndAhead) (position s)
    subst hw
    exact h.before rfl rfl rfl
  · rw [htaken]
    have h := offLine_settleProgram (hand ((s.setLink v).setProgram p) .programEndAhead) (position s)
    have hbeyond : positionHands (position s) (position (hand ((s.setLink v).setProgram p) .programEndAhead)) = [] := by
      subst hp
      exact positionHands_of_ne_beyond fun h => positionIn_append_ne_beyond hx
    rw [hbeyond, List.append_nil] at h
    generalize settleProgram _ _ = t at h
    subst hw
    unfold OffLine at *
    rw [h]
    rfl

theorem owned_segmentRecord_refused {s : State} {r : SegmentWire} {tr : Transfer} {a : Answer}
    (htr : s.program.transfer = some tr)
    (hrefusal : segmentRefusal s (SegmentWire.segment r) = some { a with fields := [] })
    (hfields : a.fields = [u8 tr.accepted, u8 s.program.segments.length, flag false]) :
    Owned (takeSegmentRecord r) s
      (s.setProgram (s.program.closed
        (({ s.program with transfer := none } : Program).low s.travel.station s.setup.control.lowWater)))
      (lowOccurs s.travel.station
        (({ s.program with transfer := none } : Program).lowBegins s.travel.station s.setup.control.lowWater)
        s.setup.control.lowWater) a := by
  refine owned_closing fun v => ?_
  have hrefusal' : segmentRefusal (s.setLink v) (SegmentWire.segment r) = some { a with fields := [] } := hrefusal
  unfold takeSegmentRecord
  simp only [show (s.setLink v).program.transfer = some tr from htr, hrefusal']
  unfold transferFields
  rw [show (s.setLink v).program = s.program from rfl, ← hfields]

/-- The low-water condition of an edited list in order, in the statement's words (R49). -/
theorem low_iff {p : Program} {x : Nat} {w : LowWater} (ho : SegmentsOrdered p.segments) : p.low x w = true ↔
    fewRemain p.segments x w.segments ∧ (p.transfer = none ∨ p.lowWater = true) := by
  unfold Program.low fewRemain
  rw [remainingCount_eq ho]
  simp

theorem lowBegins_eq {p : Program} {x : Nat} {w : LowWater} (ho : SegmentsOrdered p.segments) :
    p.lowBegins x w = if p.lowWater = false ∧ p.low x w = true then some (remainingAt p.segments x) else none := by
  unfold Program.lowBegins
  rw [remainingCount_eq ho]
  cases p.lowWater <;> cases p.low x w <;> rfl

theorem transferNext_none_iff (tr : Transfer) : tr.next = none ↔ tr.announced ≤ tr.accepted + 1 := by
  unfold Transfer.next
  split <;> simp <;> omega

/-- A low-water notice alone, in the statement's words. -/
theorem lowTold_eq (was low : Bool) (n : Nat) (w : LowWater) :
    (fun c => if c = NoticeClass.programLow then
        (if was = false ∧ low = true then some n else none).map fun n => NoticeDetail.programLow n w else none) =
      fun c => if c = .programLow ∧ was = false ∧ low = true then some (.programLow n w) else none := by
  funext c
  by_cases hc : c = .programLow
  · simp only [hc, true_and, if_true]
    split <;> rfl
  · simp only [hc, false_and, if_false]

/-- Settles O33: the checks of R51 in order, and the list appended or the phase closed. -/
theorem segmentRecordAppends : Obligations.SegmentRecordAppends := by
  unfold Obligations.SegmentRecordAppends
  refine ⟨fun tag r s tr g hs hstore htr hg hid hl hl' hd hlo hhi hslope hreach hdeep hdeep' hnew hover hpast => ?_,
    fun tag r s tr g a field reach deep twin overlap past hs hstore htr hg hfield hreach hdeep htwin hover hpast h ha =>
      ?_, fun tag r s hs hstore htr => ?_⟩
  · have hwire : SegmentWire.segment r = g := hg.symm
    have hfits := wire_fits r
    rw [hwire] at hfits
    have hbad : g.badField = none := by
      unfold Segment.badField
      rw [if_neg (by omega), if_neg (by omega), if_neg (by omega), if_neg (by omega), if_neg]
      rw [Option.any_eq_true_iff_get, not_exists]
      intro hv
      have := hslope _ (Option.some_get hv).symm
      simp only [decide_eq_true_eq]
      omega
    have hrefusal : segmentRefusal (countGood s) g = none := segmentRefusal_pass
      ((firstBad_fieldChecks hfits.1 hfits.2).trans hbad) hreach ⟨hdeep, hdeep'⟩ hnew hover hpast
    clear hg hid hl' hd hlo hhi hslope hdeep hdeep' hbad hreach hfits
    have howned := owned_segmentRecord (s := countGood s) htr hwire hrefusal hpast rfl rfl
    obtain ⟨t, n, k, f, hexec, ht, hanswered⟩ := exec_owned (i := .segmentRecord tag r) rfl hs
      (screenKind_inPhase hstore rfl) howned (tells_program _ _ _ _ _ _)
    generalize hp : (countGood s).program.appended g tr.next = p at howned ht hanswered
    have hsegs : p.segments = s.program.segments ++ [g] := by rw [← hp]; rfl
    have hlow : t.program.lowWater = p.low s.travel.station s.setup.control.lowWater := by rw [ht]; rfl
    refine ⟨t, s.program.segments ++ [g], hexec, rfl, ?_, fun hinv => ?_⟩
    · subst hp ht
      rfl
    · have ho : SegmentsOrdered p.segments := hsegs ▸ hinv.ordered.append hl hnew hover
      have htransfer : p.transfer = tr.next := by rw [← hp]; rfl
      have hwas : p.lowWater = s.program.lowWater := by rw [← hp]; rfl
      rw [lowBegins_eq ho, hsegs, hwas] at hanswered
      rw [hlow, List.length_append]
      refine ⟨?_, hanswered⟩
      rw [low_iff ho, hsegs, htransfer, hwas, transferNext_none_iff]
  · have hwire : SegmentWire.segment r = g := hg.symm
    have hfits := wire_fits r
    rw [hwire] at hfits
    have hrefusal : segmentRefusal (countGood s) (SegmentWire.segment r) = some { a with fields := [] } := by
      rw [hwire]
      exact segmentRefusal_fail (s := countGood s) ((firstBad_fieldChecks hfits.1 hfits.2).trans hfield.symm) hreach hdeep
        htwin hover hpast h
    have howned := owned_segmentRecord_refused (s := countGood s) htr hrefusal ha
    obtain ⟨t, n, k, f, hexec, ht, hanswered⟩ := exec_owned (i := .segmentRecord tag r) rfl hs
      (screenKind_inPhase hstore rfl) howned (tells_low _ _ _)
    have hlow : t.program.lowWater =
        ({ s.program with transfer := none } : Program).low s.travel.station s.setup.control.lowWater := by rw [ht]; rfl
    refine ⟨t, hexec, ?_, fun hinv => ?_⟩
    · subst ht
      rfl
    · rw [hlow]
      refine ⟨(low_iff (p := { s.program with transfer := none }) hinv.ordered).trans (by simp), ?_⟩
      have hbegins := lowBegins_eq (p := { (countGood s).program with transfer := none }) (x := s.travel.station)
        (w := s.setup.control.lowWater) hinv.ordered
      rw [show (countGood s).travel.station = s.travel.station from rfl,
        show (countGood s).setup.control.lowWater = s.setup.control.lowWater from rfl, hbegins] at hanswered
      rw [← lowTold_eq]
      exact hanswered
  · have htaken : takeRequest (.segmentRecord r) (countGood s) = (countGood s, refuse .notAllowed .noTransfer) := by
      change takeSegmentRecord r (countGood s) = _
      unfold takeSegmentRecord
      simp only [show (countGood s).program.transfer = none from htr]
    rw [exec_of_request (i := .segmentRecord tag r) rfl, arrive_quiet_of_screened s tag (.segmentRecord r) hs
      (screenKind_inPhase hstore rfl) (by nofun) (by rw [htaken]), htaken]
    rfl

end Sys2Proof.Machine
end

section
/-! Cut Program and Clear Program (R58, R59). -/

namespace Sys2Proof.Machine

open Sys2Proof

theorem positionAfter_ne_before (g : Segment) (post : List Segment) (x : Nat) : positionAfter g post x ≠ .before := by
  unfold positionAfter
  split
  · nofun
  · cases post <;> nofun

/-- Before an ordered program nothing has begun. -/
theorem before_of_positionIn {segs : List Segment} {x : Nat} (ho : SegmentsOrdered segs)
    (h : positionIn segs x = .before) : segs ≠ [] ∧ ∀ k ∈ segs, x < k.start := by
  refine ⟨fun hnil => ?_, ?_⟩
  · rw [hnil] at h
    cases h
  · rcases started_split ho x with hall | ⟨pre, g, post, rfl, hg, hpost⟩
    · exact hall
    · rw [positionIn_eq_positionAfter ho hg hpost] at h
      exact absurd h (positionAfter_ne_before _ _ _)

/-- A list cut above the station begins where it began. -/
theorem cut_before {segs : List Segment} {x c : Nat} (ho : SegmentsOrdered segs) (hc : x < c)
    (h : positionIn (cutSegments segs c) x = .before) : positionIn segs x = .before := by
  obtain ⟨hne, hall⟩ := before_of_positionIn (ho.cut c) h
  refine positionIn_of_before (fun hnil => hne (by rw [hnil]; rfl)) fun k hk => ?_
  by_contra hx
  have hmem : k.cutAt c ∈ cutSegments segs c :=
    List.mem_map_of_mem (List.mem_filter.mpr ⟨hk, decide_eq_true (by omega)⟩)
  have hstart := hall _ hmem
  rw [(k.cutAt_fields c).2.1] at hstart
  exact hx hstart

theorem positionHands_eq {old new : Position} (h : new = .before → old = .before) :
    positionHands old new = programHands old new := by
  cases new with
  | before =>
    rw [h rfl]
    rfl
  | beyond g =>
    unfold positionHands programHands
    simp only [show (Position.beyond g).code = 4 from rfl]
    by_cases hold : old.code = 4
    · simp [hold]
    · simp [hold]
  | _ => rfl

theorem owned_cutProgram {s : State} {c : BitVec 24} {w : LowWater} {p : Program} (hc : s.travel.station < c.toNat)
    (hw : s.setup.control.lowWater = w)
    (hp : ({ s.program with segments := cutSegments s.program.segments c.toNat } : Program) = p) :
    Owned (takeCutProgram c) s
      ((s.setProgram { p with lowWater := p.low s.travel.station w }).setHanded
        (s.handed ++ positionHands (positionIn s.program.segments s.travel.station)
          (positionIn p.segments s.travel.station)))
      (doneOccurs s.travel.station none ++
        positionOccurs s.travel.station (positionIn s.program.segments s.travel.station)
          (positionIn p.segments s.travel.station) ++
        lowOccurs s.travel.station (p.lowBegins s.travel.station w) w)
      (answer .done [u8 (s.program.segments.length - p.segments.length), u8 p.segments.length]) := by
  have htaken (v : Link) : takeCutProgram c (s.setLink v) = (settleProgram ((s.setLink v).setProgram p) (position s),
      answer .done [u8 (s.program.segments.length - p.segments.length), u8 p.segments.length]) := by
    subst hp
    unfold takeCutProgram
    rw [if_neg (show ¬c.toNat ≤ (s.setLink v).travel.station from Nat.not_le.mpr hc)]
    rfl
  subst hw
  refine ⟨fun v => ?_, fun v => ?_, fun v => by rw [htaken]⟩
  · rw [htaken]
    exact (settleProgram_posted ((s.setLink v).setProgram p) (position s)).before rfl rfl rfl
  · rw [htaken]
    have h := offLine_settleProgram ((s.setLink v).setProgram p) (position s)
    generalize settleProgram _ _ = t at h
    unfold OffLine at *
    rw [h]
    rfl

/-- Settles O34: the list cut, with the position and the low-water condition settled on it; the list emptied. -/
theorem cutAndClearProgram : Obligations.CutAndClearProgram := by
  unfold Obligations.CutAndClearProgram
  refine ⟨fun tag c s hs => ⟨fun hc => ?_, fun hc => ?_⟩, fun tag s hs => ⟨fun hauto => ?_, fun hauto => ?_⟩⟩
  · have howned := owned_cutProgram (s := countGood s) hc rfl rfl
    obtain ⟨t, n, k, f, hexec, ht, hanswered⟩ := exec_owned (i := .cutProgram tag c) rfl hs.1
      (screenKind_accepting hs) howned (tells_program _ _ _ _ _ _)
    generalize hp : ({ (countGood s).program with
      segments := cutSegments (countGood s).program.segments c.toNat } : Program) = p at howned ht hanswered
    have hsegs : p.segments = cutSegments s.program.segments c.toNat := by rw [← hp]; rfl
    have hlow : t.program.lowWater = p.low s.travel.station s.setup.control.lowWater := by rw [ht]; rfl
    have hhanded : t.handed = s.handed ++ positionHands (positionIn s.program.segments s.travel.station)
      (positionIn p.segments s.travel.station) := by rw [ht]; rfl
    refine ⟨t, p.segments, hexec, hsegs, ?_, fun hinv => ?_⟩
    · subst hp ht
      rfl
    · have ho : SegmentsOrdered p.segments := hsegs ▸ hinv.ordered.cut c.toNat
      have htransfer : p.transfer = none := by rw [← hp]; exact hs.2.2
      have hwas : p.lowWater = s.program.lowWater := by rw [← hp]; rfl
      rw [lowBegins_eq ho, hwas] at hanswered
      rw [hlow]
      refine ⟨(low_iff ho).trans (by simp [htransfer]), ?_, hanswered⟩
      rw [hhanded, positionHands_eq fun hnew => cut_before hinv.ordered hc (hsegs ▸ hnew)]
  · refine exec_refused (i := .cutProgram tag c) rfl hs ?_
    change takeCutProgram c (countGood s) = _
    unfold takeCutProgram
    exact if_pos hc
  · have htaken : takeRequest .clearProgram (countGood s) =
        ((countGood s).setProgram s.program.emptied, answer .done [u8 s.program.segments.length]) := by
      change takeClearProgram (countGood s) = _
      unfold takeClearProgram
      rw [(anyAuto_false_iff (countGood s)).mpr hauto]
      rfl
    exact exec_answered (i := .clearProgram tag) rfl hs htaken
  · refine exec_refused (i := .clearProgram tag) rfl hs ?_
    change takeClearProgram (countGood s) = _
    unfold takeClearProgram
    rw [if_pos]
    by_contra hnot
    exact hauto ((anyAuto_false_iff (countGood s)).mp (Bool.not_eq_true _ ▸ hnot))

end Sys2Proof.Machine
end

section
/-! Station changes: the program list and the obstacle table (R45 to R49, R73 to R76). -/

namespace Sys2Proof.Machine

open Sys2Proof

/-! ## The obstacle table -/

theorem stayOutside_eq {o : Obstacle} {y : Nat} {dir : Direction} (hout : ¬(o.start ≤ y ∧ y < o.start + o.length)) :
    o.stayOutside y dir =
      match o.state with
      | .approach =>
        if dir = .forward ∧ o.start + o.length ≤ y ∨ dir = .reverse ∧ y < o.start then
          { o with state := if o.crossed then .depart else .pending }
        else o
      | .depart => if y + 5000 < o.start then { o with state := .passed } else o
      | .passed => if y < o.start ∧ o.start ≤ y + 5000 then { o with state := .depart } else o
      | _ => o := by
  unfold Obstacle.stayOutside
  cases o.state with
  | approach =>
    have hahead : o.aheadOf y dir = true ↔
        ¬(dir = .forward ∧ o.start + o.length ≤ y ∨ dir = .reverse ∧ y < o.start) := by
      rw [aheadOf_iff]
      cases dir <;> simp <;> omega
    simp only [hahead, ite_not, Obstacle.resting]
  | depart =>
    simp only [farAbove_iff]
  | passed =>
    have hnear : (decide (y < o.start) && !o.farAbove y) = true ↔ y < o.start ∧ o.start ≤ y + 5000 := by
      rw [Bool.and_eq_true, Bool.not_eq_true', ← Bool.not_eq_true, farAbove_iff, decide_eq_true_eq, Nat.not_lt]
    simp only [hnear]
  | _ => rfl

theorem enter_eq (o : Obstacle) : o.enter =
    if o.passage = .closing then { o with state := .inside, passage := .opened }
    else { o with state := .inside, passage := .opened, sampled := false, breached := false, unsampled := false } := by
  unfold Obstacle.enter
  cases o.passage <;> rfl

theorem move_eq_carried (o : Obstacle) (x y : Nat) (dir : Direction) : o.move x y dir = o.carried dir x y := by
  unfold Obstacle.move Obstacle.carried
  simp only [contains_iff]
  by_cases hy : o.start ≤ y ∧ y < o.start + o.length
  · rw [if_pos hy, if_pos hy, enter_eq]
  · rw [if_neg hy, if_neg hy, stayOutside_eq hy]
    rfl

theorem obstacleStationChange_eq {s : State} {y : Nat} (hy : s.travel.station = y) (x : Nat) (dir : Direction) :
    obstacleStationChange s x dir = s.setObstacles (carriedTable s.obstacles dir x y) := by
  have hnear (o : Obstacle) : (!o.farBelow y) = decide (y ≤ o.start + o.length - 1 + 5000) := by
    rw [Bool.eq_iff_iff, Bool.not_eq_true', ← Bool.not_eq_true, farBelow_iff, decide_eq_true_eq, Nat.not_lt]
  unfold obstacleStationChange carriedTable
  simp only [hy, hnear, move_eq_carried]

/-! ## The program list -/

/-- With nine segments behind the first leaves the list, and the carried base follows it (R45). -/
def Program.headDropped (p : Program) (y : Nat) : Program :=
  match p.segments with
  | [] => p
  | g :: rest =>
    if 8 < behindCount p.segments y then
      { p with segments := rest, base := if g.slope.isSome then g.slope else p.base }
    else p

theorem dropHead_eq (s : State) : dropHead s = s.setProgram (s.program.headDropped s.travel.station) := by
  unfold dropHead Program.headDropped
  cases hs : s.program.segments with
  | nil => rfl
  | cons g rest =>
    simp only
    split <;> rfl

/-- The program list after a step, before the low-water condition. -/
def Program.stepped (p : Program) (dir : Direction) (y : Nat) : Program :=
  match dir with
  | .forward => p.headDropped y
  | .reverse => p

/-- The segment that a forward step leaves behind (R45). -/
def Program.left (p : Program) (dir : Direction) (y : Nat) : Option Segment :=
  if dir = .forward then p.segments.find? fun g => g.start + g.length == y else none

/-- What a step hands: the end-stop's reason, and target lost over the start of the list (R46, R48). -/
def stepHands (dir : Direction) (old new : Position) : List Instr :=
  positionHands old new ++ if dir = .reverse ∧ new = .before ∧ old ≠ .before then [.targetLost] else []

theorem donePosts_eq (s : State) : donePosts s =
    doneOccurs s.travel.station (s.program.left .forward s.travel.station) := by
  unfold donePosts doneOccurs Program.left
  rw [if_pos rfl]
  cases h : s.program.segments.find? fun g => g.endStation == s.travel.station with
  | none =>
    rw [show s.program.segments.find? (fun g => g.start + g.length == s.travel.station) = none from h]
    rfl
  | some g =>
    rw [show s.program.segments.find? (fun g => g.start + g.length == s.travel.station) = some g from h]
    rfl

theorem offLine_noteDone (s : State) : OffLine s (noteDone s) := by
  unfold noteDone
  split
  · exact offLine_post _ _ _
  · exact OffLine.refl _

theorem programStationChange_forward_eq {s : State} (h : s.program.segments ≠ []) (x : Nat) :
    programStationChange s x .forward =
      settleProgram (dropHead (noteDone s)) (positionIn s.program.segments x) := by
  obtain ⟨g, rest, hs⟩ := List.exists_cons_of_ne_nil h
  unfold programStationChange
  rw [hs]
  rfl

theorem OffLine.eq_fields {u w : State} (h : OffLine u w) : w.program = u.program ∧ w.travel = u.travel ∧
    w.setup = u.setup ∧ w.handed = u.handed := by
  unfold OffLine at h
  rw [h]
  exact ⟨rfl, rfl, rfl, rfl⟩

theorem offLine_leaveOverStart (s : State) (old : Position) :
    OffLine (s.setHanded (s.handed ++ stepHands .reverse old (position s))) (leaveOverStart s old) := by
  have h := offLine_notePosition s old
  unfold leaveOverStart stepHands
  by_cases hb : position s = .before ∧ old ≠ .before
  · rw [if_pos hb, if_pos ⟨rfl, hb⟩]
    generalize notePosition s old = t at h
    unfold OffLine at *
    rw [h, ← List.append_assoc]
    rfl
  · rw [if_neg hb, if_neg fun h => hb h.2, List.append_nil]
    exact h

/-- The state a station change leaves, and what it posts, for a list that is not empty (R45 to R49). -/
theorem programStationChange_spec {s : State} (h : s.program.segments ≠ []) (x : Nat) (dir : Direction)
    {y : Nat} (hy : s.travel.station = y) {w : LowWater} (hw : s.setup.control.lowWater = w) {p : Program}
    (hp : s.program.stepped dir y = p) {old : Position} (hold : positionIn s.program.segments x = old) :
    OffLine ((s.setProgram { p with lowWater := p.low y w }).setHanded
        (s.handed ++ stepHands dir old (positionIn p.segments y))) (programStationChange s x dir) ∧
      Posted s (programStationChange s x dir)
        (doneOccurs y (s.program.left dir y) ++ positionOccurs y old (positionIn p.segments y) ++
          lowOccurs y (p.lowBegins y w) w) := by
  subst hy hw hold
  cases dir with
  | forward =>
    rw [programStationChange_forward_eq h, dropHead_eq]
    obtain ⟨hprogram, htravel, hsetup, hhanded⟩ := (offLine_noteDone s).eq_fields
    have hnoted := offLine_noteDone s
    have hposted := noteDone_posted s
    rw [hprogram, htravel, show s.program.headDropped s.travel.station = p from hp]
    generalize noteDone s = v at *
    have hquiet : Posted v (v.setProgram p) [] := Posted.nothing rfl rfl rfl
    have hsettled := settleProgram_posted (v.setProgram p) (positionIn s.program.segments x)
    have hoff := offLine_settleProgram (v.setProgram p) (positionIn s.program.segments x)
    have hpos : position (v.setProgram p) = positionIn p.segments s.travel.station := by
      unfold position
      rw [State.setProgram_program, State.setProgram_travel, htravel]
    have hps : (v.setProgram p).program = p := rfl
    have hts : (v.setProgram p).travel = s.travel := htravel
    have hss : (v.setProgram p).setup = s.setup := hsetup
    have hhs : (v.setProgram p).handed = s.handed := hhanded
    rw [hpos, hps, hts, hss] at hsettled hoff
    rw [hhs] at hoff
    refine ⟨?_, ?_⟩
    · unfold stepHands
      rw [if_neg (by simp), List.append_nil]
      generalize settleProgram _ _ = t at hoff ⊢
      generalize s.handed ++ _ = hands at hoff ⊢
      unfold OffLine at *
      rw [hoff, hnoted]
      rfl
    · rw [List.append_assoc, ← donePosts_eq]
      exact (hposted.then_quiet hquiet).trans hsettled
  | reverse =>
    obtain ⟨g, rest, hs⟩ := List.exists_cons_of_ne_nil h
    have hp' : s.program = p := hp
    rw [programStationChange_reverse_eq hs]
    have hleft := offLine_leaveOverStart s (positionIn s.program.segments x)
    have hposted := leaveOverStart_posted s (positionIn s.program.segments x)
    obtain ⟨hprogram, htravel, hsetup, hhanded⟩ := hleft.eq_fields
    generalize leaveOverStart s _ = v at *
    have hoff := offLine_evaluateLowWater v
    have hlow := evaluateLowWater_posted v
    have hvp : v.program = p := hprogram.trans hp'
    have hvt : v.travel = s.travel := htravel
    have hvs : v.setup = s.setup := hsetup
    rw [lowWaterPosts_eq, hvp, hvt, hvs] at hlow
    rw [positionPosts_eq, show position s = positionIn p.segments s.travel.station by rw [← hp']; rfl] at hposted
    rw [hvp, hvt, hvs] at hoff
    refine ⟨?_, hposted.trans hlow⟩
    rw [← hp'] at hoff ⊢
    generalize evaluateLowWater v = t at hoff
    unfold OffLine at *
    rw [hoff, hleft]
    rfl

/-! ## A step, in the statement's words -/

theorem headDropped_of_nine {p : Program} {y : Nat} (h : behindAt p.segments y ≤ 9) :
    (p.headDropped y).segments = (if behindAt p.segments y = 9 then p.segments.tail else p.segments) ∧
      (p.headDropped y).base = (if behindAt p.segments y = 9 then
        match p.segments.head?.bind Segment.slope with
        | some v => some v
        | none => p.base
      else p.base) := by
  unfold Program.headDropped
  cases hs : p.segments with
  | nil => simp [behindAt, hs]
  | cons g rest =>
    simp only
    rw [← hs, behindCount_eq]
    by_cases h9 : behindAt p.segments y = 9
    · rw [if_pos h9, if_pos h9, if_pos (by omega), hs]
      simp only [List.head?_cons, Option.bind_some, List.tail_cons, true_and]
      cases g.slope <;> rfl
    · rw [if_neg h9, if_neg h9, if_neg (by omega)]
      exact ⟨rfl, rfl⟩

theorem headDropped_kept (p : Program) (y : Nat) :
    (p.headDropped y).transfer = p.transfer ∧ (p.headDropped y).lowWater = p.lowWater := by
  unfold Program.headDropped
  split
  · exact ⟨rfl, rfl⟩
  · split <;> exact ⟨rfl, rfl⟩

theorem headDropped_ordered {p : Program} (ho : SegmentsOrdered p.segments) (y : Nat) :
    SegmentsOrdered (p.headDropped y).segments := by
  unfold Program.headDropped
  split
  · exact ho
  · next g rest hs =>
    split
    · exact SegmentsOrdered.tail (hs ▸ ho)
    · exact ho

/-- A forward step leaves no list behind its start. -/
theorem headDropped_before {p : Program} {x y : Nat} (ho : SegmentsOrdered p.segments) (hxy : x ≤ y)
    (h : positionIn (p.headDropped y).segments y = .before) : positionIn p.segments x = .before := by
  obtain ⟨hne, hall⟩ := before_of_positionIn (headDropped_ordered ho y) h
  unfold Program.headDropped at hne hall
  cases hs : p.segments with
  | nil =>
    rw [hs] at hne
    exact absurd hs hne
  | cons g rest =>
    rw [hs] at hne hall
    simp only at hne hall
    split at hall
    · next hbehind =>
      exfalso
      have hnone : rest.countP (fun k => decide (k.endStation ≤ y)) = 0 := by
        refine countP_of_forall_not fun k hk => decide_eq_false ?_
        have := hall k hk
        unfold Segment.endStation
        omega
      have hcount : behindCount (g :: rest) y ≤ 1 + rest.countP (fun k => decide (k.endStation ≤ y)) := by
        unfold behindCount
        rw [List.countP_cons]
        split <;> omega
      omega
    · refine positionIn_of_before (by simp) fun k hk => ?_
      have := hall k (hs ▸ hk)
      omega

theorem code_before_iff (p : Position) : p.code = 1 ↔ p = .before := by
  cases p <;> simp [Position.code]

theorem stepHands_reverse (old new : Position) : stepHands .reverse old new = programHands old new := by
  unfold stepHands
  cases new with
  | before =>
    unfold positionHands programHands
    simp only [List.nil_append, true_and, ne_eq, show Position.before.code = 1 from rfl]
    by_cases hold : old = .before
    · rw [if_neg (by simpa using hold), if_pos ((code_before_iff old).mpr hold)]
    · rw [if_pos hold, if_neg (mt (code_before_iff old).mp hold)]
  | _ =>
    rw [if_neg (by simp), List.append_nil]
    exact positionHands_eq nofun

theorem stepHands_forward {old new : Position} (h : new = .before → old = .before) :
    stepHands .forward old new = programHands old new := by
  unfold stepHands
  rw [if_neg (by simp), List.append_nil]
  exact positionHands_eq h

theorem stepped_segments {p : Program} {dir : Direction} {y : Nat} (h : behindAt p.segments y ≤ 9) :
    (p.stepped dir y).segments =
        (if dir = .forward ∧ behindAt p.segments y = 9 then p.segments.tail else p.segments) ∧
      (p.stepped dir y).base = (if dir = .forward ∧ behindAt p.segments y = 9 then
        match p.segments.head?.bind Segment.slope with
        | some v => some v
        | none => p.base
      else p.base) := by
  cases dir with
  | forward =>
    obtain ⟨h1, h2⟩ := headDropped_of_nine h
    simp only [true_and]
    exact ⟨h1, h2⟩
  | reverse =>
    simp only [reduceCtorEq, false_and, if_false]
    exact ⟨rfl, rfl⟩

theorem stepped_kept (p : Program) (dir : Direction) (y : Nat) :
    (p.stepped dir y).transfer = p.transfer ∧ (p.stepped dir y).lowWater = p.lowWater := by
  cases dir with
  | forward => exact headDropped_kept p y
  | reverse => exact ⟨rfl, rfl⟩

theorem stepped_ordered {p : Program} (ho : SegmentsOrdered p.segments) (dir : Direction) (y : Nat) :
    SegmentsOrdered (p.stepped dir y).segments := by
  cases dir with
  | forward => exact headDropped_ordered ho y
  | reverse => exact ho

theorem stepHands_eq {p : Program} {dir : Direction} {x y : Nat} (ho : SegmentsOrdered p.segments)
    (hxy : dir = .forward → x ≤ y) :
    stepHands dir (positionIn p.segments x) (positionIn (p.stepped dir y).segments y) =
      programHands (positionIn p.segments x) (positionIn (p.stepped dir y).segments y) := by
  cases dir with
  | forward => exact stepHands_forward fun h => headDropped_before ho (hxy rfl) h
  | reverse => exact stepHands_reverse _ _

/-- A station change of the program list, in the statement's words: s is the state before it, and u the state that
the list finds, with the station already moved. -/
theorem programMoved {s u t : State} {dir : Direction} {x y : Nat} (hinv : ProgramInv s)
    (hup : u.program = s.program) (huw : u.setup = s.setup) (huy : u.travel.station = y) (hquiet : Posted s u [])
    (hxy : dir = .forward → x ≤ y) (htp : t.program = (programStationChange u x dir).program)
    (hline : Posted (programStationChange u x dir) t []) :
    ProgramMoved s t dir x y ∧ (programStationChange u x dir).handed = u.handed ++
      programHands (positionIn s.program.segments x) (positionIn t.program.segments y) := by
  have ho := hinv.ordered
  by_cases hne : s.program.segments = []
  · have hempty : programStationChange u x dir = u := programStationChange_empty (by rw [hup]; exact hne) x dir
    rw [hempty] at htp hline ⊢
    have htp' : t.program = s.program := htp.trans hup
    have hlow : ¬(s.program.lowWater = false ∧ t.program.lowWater = true) := by
      rw [htp']
      simp
    have hleft : (if dir = .forward then s.program.segments.find? fun g => g.start + g.length == y else none) = none := by
      simp [hne]
    have hsegs : t.program.segments = [] := by rw [htp', hne]
    refine ⟨⟨fun _ => by simp [hsegs, hne], fun _ => by simp [htp', hne], by rw [htp'], fun h => absurd hne h,
      fun _ => htp', ?_⟩, ?_⟩
    · rw [if_neg hlow, hleft, hne, hsegs]
      exact (hquiet.then_quiet hline).toTold (tells_program y .empty .empty none none s.setup.control.lowWater)
    · rw [hne, hsegs]
      exact (List.append_nil _).symm
  · obtain ⟨hoff, hposted⟩ := programStationChange_spec (s := u) (by rw [hup]; exact hne) x dir huy (by rw [huw]) rfl rfl
    rw [hup] at hoff hposted
    have ho' := stepped_ordered ho dir y
    have hhands := stepHands_eq (x := x) ho hxy
    obtain ⟨htransfer, hlowWater⟩ := stepped_kept s.program dir y
    have hsegs := stepped_segments (p := s.program) (dir := dir) (y := y)
    generalize s.program.stepped dir y = p at *
    obtain ⟨hprogram, -, -, hhanded⟩ := hoff.eq_fields
    have htp' : t.program = { p with lowWater := p.low y s.setup.control.lowWater } := by
      rw [htp, hprogram]
      rfl
    have hts : t.program.segments = p.segments := by rw [htp']
    have htl : t.program.lowWater = p.low y s.setup.control.lowWater := by rw [htp']
    rw [hts]
    refine ⟨⟨fun h => hts.trans (hsegs h).1, fun h => ?_, ?_, fun _ => ?_, fun h => absurd h hne, ?_⟩, ?_⟩
    · rw [htp']
      exact (hsegs h).2
    · rw [htp']
      exact htransfer
    · rw [htl, hts, low_iff ho', htransfer, hlowWater]
    · rw [hts, htl]
      have htold := (hquiet.quiet_then hposted).then_quiet hline
      have htells := tells_program y (positionIn s.program.segments x) (positionIn p.segments y) (s.program.left dir y)
        (p.lowBegins y s.setup.control.lowWater) s.setup.control.lowWater
      rw [lowBegins_eq ho', hlowWater] at htells htold
      exact htold.toTold htells
    · rw [hhanded, ← hhands]
      rfl

end Sys2Proof.Machine
end

section
/-! Counted pulses (R3 to R12). -/

namespace Sys2Proof.Machine

open Sys2Proof

/-- The trigger handed at the distance N (R12). -/
def distanceHands (distance count y : Nat) : List Instr :=
  if distance ≤ count + 1 then [.triggerTaken .distance y] else []

theorem countDistance_eq {s : State} {y : Nat} (hy : s.travel.station = y) : countDistance s =
    (s.setTravel { s.travel with
        triggerCount := if s.setup.scan.distance ≤ s.travel.triggerCount + 1 then 0 else s.travel.triggerCount + 1 }).setHanded
      (s.handed ++ distanceHands s.setup.scan.distance s.travel.triggerCount y) := by
  subst hy
  unfold countDistance distanceHands
  simp only
  split
  · rfl
  · rw [List.append_nil]
    rfl

/-- The events of a pulse that ends standstill (R9). -/
def endedHands (standstill : Bool) : List Instr := if standstill then [.standstillEndEvent] else []

/-- The state that a counted pulse hands on: its travel, and the end of standstill handed (R6 to R9). -/
def pulsed (s : State) (e : Travel) : State := (s.setTravel e).setHanded (s.handed ++ endedHands s.travel.standstill)

theorem countPulse_eq {s : State} {dir : Direction} {y f : Nat}
    (h : pulseMove s.setup.geometry.pulses dir s.travel.station s.travel.frac = some (y, f)) :
    countPulse s dir =
      if y = s.travel.station then pulsed s (pulsedTravel s.travel dir y f)
      else stationMoved (pulsed s (pulsedTravel s.travel dir y f)) s.travel.station dir := by
  have hpulsed : pulsed s (pulsedTravel s.travel dir y f) =
      if s.travel.standstill then hand (s.setTravel (pulsedTravel s.travel dir y f)) .standstillEndEvent
      else s.setTravel (pulsedTravel s.travel dir y f) := by
    unfold pulsed endedHands
    cases s.travel.standstill with
    | true => rfl
    | false =>
      rw [if_neg (by simp), if_neg (by simp), List.append_nil]
      rfl
  unfold countPulse
  rw [h, hpulsed]

/-- The travel state of a counted pulse. -/
structure PulsedTravel (e t : Travel) (d : Direction) (y f : Nat) : Prop where
  phaseA : t.phaseA = e.phaseA
  phaseB : t.phaseB = e.phaseB
  edges : t.edges = e.edges
  station : t.station = y
  frac : t.frac = f
  dir : t.dir = d
  standstill : t.standstill = false
  standstillTimer : t.standstillTimer = true
  triggerTimer : t.triggerTimer = none
  speed : t.speed = e.speed
  window : t.window = bumpWindow e.window d

theorem pulsedTravel_spec (e : Travel) (dir : Direction) (y f : Nat) :
    PulsedTravel e (pulsedTravel e dir y f) dir y f := ⟨rfl, rfl, rfl, rfl, rfl, rfl, rfl, rfl, rfl, rfl, rfl⟩

theorem PulsedTravel.counted {e t : Travel} {dir : Direction} {y f : Nat} (h : PulsedTravel e t dir y f) (n : Nat) :
    PulsedTravel e { t with triggerCount := n } dir y f :=
  ⟨h.phaseA, h.phaseB, h.edges, h.station, h.frac, h.dir, h.standstill, h.standstillTimer, h.triggerTimer, h.speed,
    h.window⟩

/-- A counted pulse that leaves the station (R6). -/
structure PulseWithin (s t : State) : Prop where
  program : t.program = s.program
  obstacles : t.obstacles = s.obstacles
  notices : t.notices = s.notices
  link : t.link = s.link
  triggerCount : t.travel.triggerCount = s.travel.triggerCount
  handed : t.handed = s.handed ++ endedHands s.travel.standstill

/-- A counted pulse that moves the station from x to y (R7, R10, R12). -/
structure PulseMoved (s t : State) (dir : Direction) (x y : Nat) : Prop where
  triggerCount : t.travel.triggerCount =
    if s.setup.scan.distance ≤ s.travel.triggerCount + 1 then 0 else s.travel.triggerCount + 1
  obstacles : t.obstacles = carriedTable s.obstacles dir x y
  handed : ∃ hands, t.handed = s.handed ++ endedHands s.travel.standstill ++ hands ++
    distanceHands s.setup.scan.distance s.travel.triggerCount y
  program : ProgramInv s → (dir = .forward → x ≤ y) → ProgramMoved s t dir x y ∧
    t.handed = s.handed ++ endedHands s.travel.standstill ++
      programHands (positionIn s.program.segments x) (positionIn t.program.segments y) ++
      distanceHands s.setup.scan.distance s.travel.triggerCount y

theorem programStationChange_handed (u : State) (x : Nat) (dir : Direction) :
    ∃ hands, (programStationChange u x dir).handed = u.handed ++ hands := by
  by_cases h : u.program.segments = []
  · rw [programStationChange_empty h]
    exact ⟨[], (List.append_nil _).symm⟩
  · obtain ⟨hoff, -⟩ := programStationChange_spec h x dir rfl rfl rfl rfl
    obtain ⟨-, -, -, hhanded⟩ := hoff.eq_fields
    exact ⟨_, hhanded⟩

theorem stationMoved_spec {s u : State} {e : Travel} {x y : Nat} {dir : Direction} (hu : pulsed s e = u)
    (hy : e.station = y) (hcount : e.triggerCount = s.travel.triggerCount) :
    PulseMoved s (stationMoved u x dir) dir x y ∧
      (stationMoved u x dir).travel = { e with
        triggerCount := if s.setup.scan.distance ≤ s.travel.triggerCount + 1 then 0 else s.travel.triggerCount + 1 } := by
  have hut : u.travel = e := by rw [← hu]; rfl
  have huy : u.travel.station = y := by rw [hut, hy]
  have hus : u.setup = s.setup := by rw [← hu]; rfl
  have huo : u.obstacles = s.obstacles := by rw [← hu]; rfl
  have hup : u.program = s.program := by rw [← hu]; rfl
  have huh : u.handed = s.handed ++ endedHands s.travel.standstill := by rw [← hu]; rfl
  have hquiet : Posted s u [] := hu ▸ Posted.nothing rfl rfl rfl
  have hv : (programStationChange u x dir).travel = u.travel ∧ (programStationChange u x dir).obstacles = u.obstacles ∧
      (programStationChange u x dir).store = u.store := by simp
  obtain ⟨hvt, hvo, hvst⟩ := hv
  have hvs : (programStationChange u x dir).setup = s.setup := (setup_of_store hvst).trans hus
  obtain ⟨hands, hhands⟩ := programStationChange_handed u x dir
  have hmoved (hinv : ProgramInv s) (hxy : dir = .forward → x ≤ y) (t : State)
      (htp : t.program = (programStationChange u x dir).program) (hline : Posted (programStationChange u x dir) t []) :=
    programMoved hinv hup hus huy hquiet hxy htp hline
  have hwhole : stationMoved u x dir =
      countDistance (obstacleStationChange (programStationChange u x dir) x dir) := rfl
  rw [hwhole]
  generalize programStationChange u x dir = v at *
  rw [obstacleStationChange_eq (by rw [hvt, huy]), countDistance_eq (y := y) (by
    rw [State.setObstacles_travel, hvt, huy])]
  have hws : (v.setObstacles (carriedTable v.obstacles dir x y)).setup = s.setup := hvs
  have hwt : (v.setObstacles (carriedTable v.obstacles dir x y)).travel = e := hvt.trans hut
  have hwh : (v.setObstacles (carriedTable v.obstacles dir x y)).handed = v.handed := rfl
  rw [hws, hwt, hwh, hcount, hvo, huo]
  generalize hn : (if s.setup.scan.distance ≤ s.travel.triggerCount + 1 then 0 else s.travel.triggerCount + 1) = n
  generalize htrigger : distanceHands s.setup.scan.distance s.travel.triggerCount y = trigger
  generalize ht : ((v.setObstacles (carriedTable s.obstacles dir x y)).setTravel
    { e with triggerCount := n }).setHanded (v.handed ++ trigger) = t
  have htp : t.program = v.program := by rw [← ht]; rfl
  have hth : t.handed = v.handed ++ trigger := by rw [← ht]; rfl
  have hline : Posted v t [] := ht ▸ Posted.nothing rfl rfl rfl
  have htt : t.travel = { e with triggerCount := n } := by rw [← ht]; rfl
  have hto : t.obstacles = carriedTable s.obstacles dir x y := by rw [← ht]; rfl
  refine ⟨⟨by rw [htt, hn], hto, ⟨hands, by rw [hth, hhands, huh, htrigger]⟩, fun hinv hxy => ?_⟩, htt⟩
  obtain ⟨hprogram, hstepped⟩ := hmoved hinv hxy t htp hline
  exact ⟨hprogram, by rw [hth, hstepped, huh, htrigger]⟩

/-- The edge that completes a pulse counts it (R2 to R12). -/
theorem pulse_counted {s : State} {a b : Bool} {dir : Direction} {x y f : Nat} (hx : s.travel.station = x)
    (hmove : pulseMove s.setup.geometry.pulses dir x s.travel.frac = some (y, f)) :
    ∃ t, countPulse (s.setTravel (edged s.travel a b 0)) dir = t ∧
      PulsedTravel (edged s.travel a b 0) t.travel dir y f ∧ (y = x → PulseWithin s t) ∧
      (y ≠ x → PulseMoved s t dir x y) ∧ PulseFrame s t := by
  subst hx
  have hcounted := countPulse_eq (s := s.setTravel (edged s.travel a b 0)) hmove
  have hpulsed : pulsed (s.setTravel (edged s.travel a b 0)) (pulsedTravel (edged s.travel a b 0) dir y f) =
      pulsed s (pulsedTravel (edged s.travel a b 0) dir y f) := rfl
  rw [State.setTravel_travel, hpulsed, show (edged s.travel a b 0).station = s.travel.station from rfl] at hcounted
  have hspec := pulsedTravel_spec (edged s.travel a b 0) dir y f
  have hcount : (pulsedTravel (edged s.travel a b 0) dir y f).triggerCount = s.travel.triggerCount := rfl
  refine ⟨_, rfl, ?_⟩
  have hframe : PulseFrame s (countPulse (s.setTravel (edged s.travel a b 0)) dir) :=
    ⟨by simp, by simp, by simp, by simp, by simp, by simp, by simp, by simp, by simp, by simp⟩
  rw [hcounted] at hframe ⊢
  generalize pulsedTravel (edged s.travel a b 0) dir y f = e at *
  by_cases hy : y = s.travel.station
  · rw [if_pos hy] at hframe ⊢
    exact ⟨hspec, fun _ => ⟨rfl, rfl, rfl, rfl, hcount, rfl⟩, fun h => absurd hy h, hframe⟩
  · rw [if_neg hy] at hframe ⊢
    obtain ⟨hmoved, htravel⟩ := stationMoved_spec (x := s.travel.station) (dir := dir) (rfl : pulsed s e = _)
      hspec.station hcount
    refine ⟨?_, fun h => absurd h hy, fun _ => hmoved, hframe⟩
    rw [htravel]
    exact hspec.counted _

theorem PulseWithin.ended {s t : State} (h : PulseWithin s t) (hs : s.travel.standstill = true) :
    Instr.standstillEndEvent ∈ t.handed := by
  rw [h.handed, hs]
  simp [endedHands]

theorem PulseMoved.ended {s t : State} {dir : Direction} {x y : Nat} (h : PulseMoved s t dir x y)
    (hs : s.travel.standstill = true) : Instr.standstillEndEvent ∈ t.handed := by
  obtain ⟨hands, hh⟩ := h.handed
  rw [hh, hs]
  simp [endedHands]

theorem PulseMoved.trigger {s t : State} {dir : Direction} {x y : Nat} (h : PulseMoved s t dir x y)
    (hn : s.setup.scan.distance ≤ s.travel.triggerCount + 1) : Instr.triggerTaken .distance y ∈ t.handed := by
  obtain ⟨hands, hh⟩ := h.handed
  rw [hh, distanceHands, if_pos hn]
  simp

/-- Settles O15: the pulse counted, and behind a whole metre's accumulator the station moved on. -/
theorem forwardPulse : Obligations.ForwardPulse := by
  unfold Obligations.ForwardPulse
  intro a b s p x f hedge hedges hp hx hf hp100 hfp htop
  have hmove : pulseMove s.setup.geometry.pulses .forward x s.travel.frac =
      some (if p ≤ f + 100 then x + 1 else x, if p ≤ f + 100 then f + 100 - p else f + 100) := by
    rw [hp, hf]
    unfold pulseMove
    by_cases hcarry : p ≤ f + 100
    · have := htop hcarry
      simp only [if_pos hcarry]
      rw [if_neg (by omega), if_neg (by omega)]
    · simp only [if_neg hcarry]
      rw [if_pos (by omega)]
  have hexec : exec (.encoderEdge a b) s = .next (countPulse (s.setTravel (edged s.travel a b 0)) .forward) := by
    rw [exec_edge_up (edgeStep_of_forward hedge), if_pos (by omega)]
  obtain ⟨t, hcounted, htravel, hwithin, hmoved, hframe⟩ := pulse_counted (a := a) (b := b) hx hmove
  refine ⟨t, endedHands s.travel.standstill, hexec.trans (congrArg _ hcounted), rfl, htravel.phaseA, htravel.phaseB,
    htravel.edges, htravel.station, htravel.frac, htravel.dir, htravel.standstill, htravel.standstillTimer, htravel.triggerTimer, htravel.speed,
    ?_, fun hs => ?_, fun hstay => ?_, fun hcarry => ?_, hframe⟩
  · rw [htravel.window]
    cases hw : s.travel.window <;> simp only [edged, hw, bumpWindow, pulseCount]
  · by_cases hcarry : p ≤ f + 100
    · exact (hmoved (by rw [if_pos hcarry]; exact Nat.succ_ne_self x)).ended hs
    · exact (hwithin (by rw [if_neg hcarry])).ended hs
  · have h := hwithin (by rw [if_neg (by omega)])
    exact ⟨h.program, h.obstacles, h.notices, h.link, h.triggerCount, h.handed⟩
  · have h := hmoved (by rw [if_pos hcarry]; exact Nat.succ_ne_self x)
    rw [if_pos hcarry] at h
    refine ⟨h.triggerCount, h.trigger, h.obstacles, fun hinv => ?_⟩
    obtain ⟨hprogram, hhanded⟩ := h.program hinv fun _ => Nat.le_succ x
    exact ⟨hprogram, List.Perm.of_eq hhanded⟩

/-- Settles O16: the mirror of the forward pulse. -/
theorem reversePulse : Obligations.ReversePulse := by
  unfold Obligations.ReversePulse
  intro a b s p x f hedge hedges hp hx hf hp100 hfp hbottom
  have hmove : pulseMove s.setup.geometry.pulses .reverse x s.travel.frac =
      some (if 100 ≤ f then x else x - 1, if 100 ≤ f then f - 100 else f + p - 100) := by
    rw [hp, hf]
    unfold pulseMove
    by_cases hstay : 100 ≤ f
    · simp only [if_pos hstay]
    · have := hbottom (by omega)
      simp only [if_neg hstay]
      rw [if_neg (by omega)]
  have hexec : exec (.encoderEdge a b) s = .next (countPulse (s.setTravel (edged s.travel a b 0)) .reverse) := by
    rw [exec_edge_down (edgeStep_of_reverse hedge), if_pos (by omega)]
  obtain ⟨t, hcounted, htravel, hwithin, hmoved, hframe⟩ := pulse_counted (a := a) (b := b) hx hmove
  refine ⟨t, endedHands s.travel.standstill, hexec.trans (congrArg _ hcounted), rfl, htravel.phaseA, htravel.phaseB,
    htravel.edges, htravel.station, htravel.frac, htravel.dir, htravel.standstill, htravel.standstillTimer, htravel.triggerTimer, htravel.speed,
    ?_, fun hs => ?_, fun hstay => ?_, fun hcarry => ?_, hframe⟩
  · rw [htravel.window]
    cases hw : s.travel.window <;> simp only [edged, hw, bumpWindow, pulseCount] <;> rfl
  · by_cases hstay : 100 ≤ f
    · exact (hwithin (by rw [if_pos hstay])).ended hs
    · have := hbottom (by omega)
      exact (hmoved (by rw [if_neg hstay]; omega)).ended hs
  · have h := hwithin (by rw [if_pos hstay])
    exact ⟨h.program, h.obstacles, h.notices, h.link, h.triggerCount, h.handed⟩
  · have hpos := hbottom hcarry
    have hgo : ¬100 ≤ f := by omega
    have h := hmoved (by rw [if_neg hgo]; omega)
    rw [if_neg hgo] at h
    refine ⟨h.triggerCount, h.trigger, h.obstacles, fun hinv => ?_⟩
    obtain ⟨hprogram, hhanded⟩ := h.program hinv nofun
    exact ⟨hprogram, List.Perm.of_eq hhanded⟩

end Sys2Proof.Machine
end

section
/-! Writes of CONTROL, LEG, CONVEYOR, TRUCK, LIMITS, NOTICE and LINK (R181, R182). -/

namespace Sys2Proof.Machine

open Sys2Proof

/-! ## The codes of the setup's enumerated fields -/

theorem sideOfCode_isSome : ∀ n, (sideOfCode n).isSome = decide (n ≤ 1)
  | 0 | 1 => rfl
  | n + 2 => by simp [sideOfCode]

theorem channelKind_isSome : ∀ n, (ChannelKind.ofCode n).isSome = decide (n ≤ 2)
  | 0 | 1 | 2 => rfl
  | n + 3 => by simp [Machine.ChannelKind.ofCode]

theorem sideMode_isSome : ∀ n, (SideMode.ofCode n).isSome = decide (n ≤ 2)
  | 0 | 1 | 2 => rfl
  | n + 3 => by simp [Machine.SideMode.ofCode]

theorem encoderSense_isSome : ∀ n, (EncoderSense.ofCode n).isSome = decide (n ≤ 1)
  | 0 | 1 => rfl
  | n + 2 => by simp [Machine.EncoderSense.ofCode]

theorem triggerMode_isSome : ∀ n, (TriggerMode.ofCode n).isSome = decide (n ≤ 1)
  | 0 | 1 => rfl
  | n + 2 => by simp [Machine.TriggerMode.ofCode]

theorem lowWater_isSome : ∀ n, (LowWater.ofCode n).isSome = decide (n ≤ 2)
  | 0 | 1 | 2 => rfl
  | n + 3 => by simp [Machine.LowWater.ofCode]

theorem filterPeriod_isSome : ∀ n, (FilterPeriod.ofCode n).isSome = decide (n ≤ 2)
  | 0 | 1 | 2 => rfl
  | n + 3 => by simp [Machine.FilterPeriod.ofCode]

theorem supplyPair_isSome : ∀ n, (SupplyPair.ofCode n).isSome = decide (n ≤ 2)
  | 0 | 1 | 2 => rfl
  | n + 3 => by simp [Machine.SupplyPair.ofCode]

theorem baud_isSome : ∀ n, (Baud.ofCode n).isSome = decide (n ≤ 2)
  | 0 | 1 | 2 => rfl
  | n + 3 => by simp [Machine.Baud.ofCode]

theorem eq_none_of_isSome {α : Type} {o : Option α} {p : Prop} [Decidable p] (h : o.isSome = decide p) (hp : ¬p) :
    o = none := Option.isNone_iff_eq_none.mp (by simp [← Option.not_isSome, h, hp])

theorem baud_byte {b : Byte} {rate : Baud} (h : Baud.ofCode b.toNat = some rate) : byte rate.code = b := by
  have hcode : rate.code = b.toNat := by
    generalize b.toNat = n at h
    match n, h with
    | 0, rfl | 1, rfl | 2, rfl => rfl
  rw [hcode]
  exact BitVec.ofNat_toNat _ _

/-! ## CONTROL -/

theorem controlOfWire_eq {w : ControlWire} {low : LowWater} (h : LowWater.ofCode w.lowWater.toNat = some low) :
    controlOfWire w = some
      { defaultSlope := max (-1000) (min 1000 w.defaultSlope.toInt), lowWater := low,
        lookahead := min 2000 w.lookahead.toNat, tolerance := min 200 w.tolerance.toNat,
        deadband := min 50 w.deadband.toNat, gain := max 1 (min 200 w.gain.toNat),
        slew := max 10 (min 1000 w.slew.toNat), swell := max 100 (min 180 w.swell.toNat) } := by
  simp [controlOfWire, h, clampNat_eq, clamp_eq]

theorem owned_writeControl {s : State} {w : ControlWire} {g : Control} (hw : controlOfWire w = some g) :
    Owned (takeWriteControl w) s
      ((setWorking s { s.setup with control := g }).setProgram
        { s.program with lowWater := s.program.low s.travel.station g.lowWater })
      (lowOccurs s.travel.station (s.program.lowBegins s.travel.station g.lowWater) g.lowWater)
      (writeAnswer 9 w.bytes g.wire.bytes) := by
  have htaken (v : Link) : takeWriteControl w (s.setLink v) =
      (evaluateLowWater (setWorking (s.setLink v) { s.setup with control := g }),
        writeAnswer 9 w.bytes g.wire.bytes) := by
    unfold takeWriteControl
    simp only [hw]
    rfl
  refine ⟨fun v => ?_, fun v => ?_, fun v => by rw [htaken]⟩
  · rw [htaken]
    have h := evaluateLowWater_posted (setWorking (s.setLink v) { s.setup with control := g })
    rw [lowWaterPosts_eq] at h
    exact h.before rfl rfl rfl
  · rw [htaken]
    have h := offLine_evaluateLowWater (setWorking (s.setLink v) { s.setup with control := g })
    generalize evaluateLowWater _ = t at h
    unfold OffLine at *
    rw [h]
    rfl

/-! ## LEG, CONVEYOR and TRUCK -/

theorem legsOfWire_eq {w : Sides LegWire} {g : Sides LegSetup}
    (h : ∀ d, g.get d =
      { start := max 100 (min 800 (w.get d).start.toNat), maximum := max 200 (min 1500 (w.get d).maximum.toNat),
        rate := max 1 (min 500 (w.get d).rate.toNat) }) : legsOfWire w = g := by
  obtain ⟨gl, gr⟩ := g
  have hl := h .left
  have hr := h .right
  simp only [Sides.get] at hl hr
  simp [legsOfWire, legOfWire, clampNat_eq, hl, hr]

theorem takeWriteLeg_refused {s : State} {w : Sides LegWire} {g : Sides LegSetup} (hg : legsOfWire w = g)
    (h : ∃ d, (g.get d).maximum ≤ (g.get d).start) : takeWriteLeg w s = (s, refuse .badField .currents) := by
  obtain ⟨d, hd⟩ := h
  have hbad : g.left.maximum ≤ g.left.start ∨ g.right.maximum ≤ g.right.start := by
    cases d with
    | left => exact .inl hd
    | right => exact .inr hd
  unfold takeWriteLeg
  simp only [hg]
  exact if_pos hbad

theorem takeWriteLeg_taken {s : State} {w : Sides LegWire} {g : Sides LegSetup} (hg : legsOfWire w = g)
    (h : ∀ d, (g.get d).start < (g.get d).maximum) : takeWriteLeg w s =
      (recomputeCoils (setWorking s { s.setup with legs := g }),
        writeAnswer 10 (legGroupBytes w) (legGroupBytes (legsWire g))) := by
  have hl := h .left
  have hr := h .right
  unfold takeWriteLeg
  simp only [hg]
  exact if_neg (not_or.mpr ⟨Nat.not_le.mpr hl, Nat.not_le.mpr hr⟩)

theorem conveyorOfWire_eq (w : ConveyorWire) : conveyorOfWire w =
    { capacity := max 10 (min 200 w.capacity.toNat), beltMin := max 5 (min 50 w.beltMin.toNat),
      purge := max 20 (min 100 w.purge.toNat), topOff := max 10 (min 100 w.topOff.toNat),
      housingLimit := max 100 (min 2000 w.housingLimit.toNat),
      pickup := max 100 (min 20000 w.pickup.toNat), start := max 100 (min 800 w.start.toNat),
      maximum := max 200 (min 1500 w.maximum.toNat) } := by
  simp [conveyorOfWire, clampNat_eq]

theorem takeWriteConveyor_taken {s : State} {w : ConveyorWire} {g : ConveyorSetup} (hg : conveyorOfWire w = g)
    (h : g.start < g.maximum) : takeWriteConveyor w s =
      ((setWorking s { s.setup with conveyor := g }).setConveyor (s.conveyor.evaluated g),
        writeAnswer 12 w.bytes g.wire.bytes) := by
  unfold takeWriteConveyor
  simp only [hg]
  rw [if_neg (Nat.not_le.mpr h), evaluateBelt_eq]
  rfl

theorem belt_written {s t : State} {p : Store} {g : ConveyorSetup} {d : Conveyor} {k : Link}
    (hd : s.conveyor.evaluated g = d) (ht : t = { s with conveyor := d, store := p, link := k }) :
    t = { s with
      store := p,
      conveyor := { s.conveyor with
        command := t.conveyor.command, coil := t.conveyor.coil, belt := t.conveyor.belt },
      link := k } := by
  subst hd ht
  rfl

theorem truckOfWire_eq (w : TruckWire) : truckOfWire w =
    { target := max 2000 (min 30000 w.target.toNat), margin := min 5000 w.margin.toNat,
      settle := max 1 (min 10 w.settle.toNat) } := by
  simp [truckOfWire, clampNat_eq]

/-- The conveyor a TRUCK write leaves: its truck checked where target or margin changed (R147). -/
def Conveyor.retargeted (c : Conveyor) (old new : TruckSetup) (p : ConveyorSetup) : Conveyor :=
  if new.target = old.target ∧ new.margin = old.margin then c else c.truckChecked new p

theorem takeWriteTruck_eq {s : State} {w : TruckWire} {g : TruckSetup} (hg : truckOfWire w = g) :
    takeWriteTruck w s =
      ((setWorking s { s.setup with truck := g }).setConveyor
          (s.conveyor.retargeted s.setup.truck g s.setup.conveyor),
        writeAnswer 13 w.bytes g.wire.bytes) := by
  unfold takeWriteTruck Conveyor.retargeted
  simp only [hg]
  split
  · rfl
  · rw [truckChecks_eq]
    rfl

/-! ## LIMITS and NOTICE -/

theorem limitsOfWire_eq {w : LimitsWire} {filter : FilterPeriod} {pair : SupplyPair}
    (hf : FilterPeriod.ofCode w.filter.toNat = some filter) (hp : SupplyPair.ofCode w.pair.toNat = some pair) :
    limitsOfWire w = some { filter := filter, maxSpeed := max 10 (min 999 w.maxSpeed.toNat), pair := pair } := by
  simp [limitsOfWire, hf, hp, clampNat_eq]

theorem takeWriteLimits_refused {s : State} {w : LimitsWire} {off : Nat}
    (h : 2 < w.filter.toNat ∧ off = 1 ∨ w.filter.toNat ≤ 2 ∧ 2 < w.pair.toNat ∧ off = 4) :
    takeWriteLimits w s = (s, refuseField off) := by
  have hbad : refuseFirst (limitsChecks w) = some (refuseField off) := by
    unfold refuseFirst limitsChecks
    rw [filterPeriod_isSome, supplyPair_isSome]
    rcases h with ⟨hf, rfl⟩ | ⟨hf, hp, rfl⟩
    · simp [firstBad, hf]
    · simp [firstBad, hf, hp]
  unfold takeWriteLimits
  simp only [hbad]

theorem takeWriteLimits_taken {s : State} {w : LimitsWire} {g : Limits} (hg : limitsOfWire w = some g)
    (hf : w.filter.toNat ≤ 2) (hp : w.pair.toNat ≤ 2) : takeWriteLimits w s =
      (setHolds (setWorking s { s.setup with limits := g }) s.advance.holds, writeAnswer 14 w.bytes g.wire.bytes) := by
  have hgood : refuseFirst (limitsChecks w) = none := by
    unfold refuseFirst limitsChecks
    rw [filterPeriod_isSome, supplyPair_isSome]
    simp [firstBad, hf, hp]
  unfold takeWriteLimits
  simp only [hgood, hg]

theorem advance_written {s t : State} {p : Store} {a : Advance} {k : Link} (ha : a.holds = s.advance.holds)
    (ht : t = { s with advance := a, store := p, link := k }) :
    t = { s with
      store := p, advance := { s.advance with speedCap := t.advance.speedCap, permit := t.advance.permit },
      link := k } := by
  obtain ⟨holds, cap, permit⟩ := a
  subst ht
  change holds = _ at ha
  subst ha
  rfl

theorem levelsOfWire_get (w : PerClass Byte) (c : NoticeClass) :
    (levelsOfWire w).get c = min 3 (w.get c).toNat := by
  rw [← clampNat_zero]
  cases c <;> rfl

theorem byte_min3 (b : Byte) : byte (min 3 b.toNat) = b ↔ b.toNat ≤ 3 := by
  constructor
  · intro h
    have hn := congrArg BitVec.toNat h
    simp only [byte, BitVec.toNat_ofNat] at hn
    omega
  · intro h
    rw [Nat.min_eq_right h]
    exact BitVec.ofNat_toNat _ _

theorem takeWriteNotice_eq (w : PerClass Byte) (s : State) : takeWriteNotice w s =
    ((setWorking s { s.setup with levels := levelsOfWire w }).setNotices
        { s.notices with pending := keptNotices (levelsOfWire w) s.notices.pending },
      writeAnswer 15 (noticeBytes w) (levelBytes (levelsOfWire w))) := rfl

theorem levelBytes_eq_iff (w : PerClass Byte) : levelBytes (levelsOfWire w) = noticeBytes w ↔
    (NoticeClass.all.all fun c => decide ((w.get c).toNat ≤ 3)) = true := by
  unfold levelBytes noticeBytes
  rw [List.map_inj_left, List.all_eq_true]
  refine forall₂_congr fun c _ => ?_
  rw [levelsOfWire_get, byte_min3, decide_eq_true_iff]

theorem takeWriteLink_taken {s : State} {b : Byte} {rate : Baud} (h : Baud.ofCode b.toNat = some rate) :
    takeWriteLink b s = (setWorking s { s.setup with baud := rate }, answer .done [u8 16, u8 b.toNat]) := by
  unfold takeWriteLink writeAnswer
  simp only [h, baud_byte h, if_true]
  rfl

/-- Settles O59: each group held as clamped, with what its owner does on it. -/
theorem otherGroupsWritten : Obligations.OtherGroupsWritten := by
  unfold Obligations.OtherGroupsWritten
  intro tag s hs
  refine ⟨fun w h => ?_, fun w low holds posted hinv hw hholds hposted => ?_, fun w g hg => ?_, fun w g hg => ?_,
    fun w g hg => ?_, fun w off h => ?_, fun w filter pair hf hp => ?_, fun w => ?_, fun b h => ?_, fun b rate h => ?_⟩
  · refine exec_refused (i := .writeSetupControl tag w) rfl hs ?_
    change takeWriteControl w (countGood s) = _
    have hnone := eq_none_of_isSome (lowWater_isSome _) (Nat.not_le.mpr h)
    unfold takeWriteControl controlOfWire
    simp only [hnone, Option.map_none]
  · have hg := controlOfWire_eq hw
    generalize hgen : Control.mk _ _ _ _ _ _ _ _ = g at hg
    have hglow : g.lowWater = low := by rw [← hgen]
    have ho := hinv.ordered
    have howned := owned_writeControl (s := countGood s) hg
    obtain ⟨t, n, k, f, hexec, ht, hanswered⟩ := exec_owned (i := .writeSetupControl tag w) rfl hs.1
      (screenKind_accepting hs) howned (tells_low _ _ _)
    have hlow : s.program.low s.travel.station low = holds := by
      rw [Bool.eq_iff_iff, low_iff ho, hholds]
      simp [hs.2.2]
    have hlow' : (countGood s).program.low (countGood s).travel.station g.lowWater = holds := by
      rw [hglow]
      exact hlow
    have hbegins : ((countGood s).program.lowBegins (countGood s).travel.station g.lowWater).map
        (fun n => NoticeDetail.programLow n g.lowWater) = posted := by
      have heq := lowBegins_eq (x := s.travel.station) (w := low) ho
      rw [hlow] at heq
      rw [hglow, show (countGood s).program.lowBegins (countGood s).travel.station low = _ from heq, hposted]
      cases holds <;> cases s.program.lowWater <;> rfl
    rw [hbegins] at hanswered
    rw [hlow'] at ht
    refine ⟨t, g, hexec, rfl, ?_, hanswered⟩
    subst ht
    rfl
  · have hw := legsOfWire_eq hg
    refine ⟨fun h => ?_, fun h => ?_⟩
    · exact exec_refused (i := .writeSetupLeg tag w) rfl hs (takeWriteLeg_refused (s := countGood s) hw h)
    · exact exec_answered (i := .writeSetupLeg tag w) rfl hs (takeWriteLeg_taken (s := countGood s) hw h)
  · have hw : conveyorOfWire w = g := (conveyorOfWire_eq w).trans hg.symm
    clear hg
    refine ⟨fun h => ?_, fun h => ?_⟩
    · refine exec_refused (i := .writeSetupConveyor tag w) rfl hs ?_
      change takeWriteConveyor w (countGood s) = _
      unfold takeWriteConveyor
      simp only [hw]
      exact if_pos h
    · have htaken := takeWriteConveyor_taken (s := countGood s) hw h
      have hfollows := evaluated_follows g s.conveyor
      have hstalled := evaluated_belt_stalled (p := g) (c := s.conveyor)
      rw [show (countGood s).conveyor = s.conveyor from rfl] at htaken
      generalize hd : s.conveyor.evaluated g = d at *
      have hnext := exec_answered (i := .writeSetupConveyor tag w) rfl hs htaken rfl (by nofun) rfl
      exact ⟨_, hnext, belt_written hd rfl, hfollows, hstalled⟩
  · have hw : truckOfWire w = g := (truckOfWire_eq w).trans hg.symm
    clear hg
    have htaken := takeWriteTruck_eq (s := countGood s) hw
    rw [show (countGood s).conveyor = s.conveyor from rfl, show (countGood s).setup = s.setup from rfl] at htaken
    generalize hd : s.conveyor.retargeted s.setup.truck g s.setup.conveyor = d at htaken
    have hnext := exec_answered (i := .writeSetupTruck tag w) rfl hs htaken rfl (by nofun) rfl
    refine ⟨_, hnext, rfl, fun hl ht => ?_, fun ht hm => ?_, fun k hchange hunder hk => ?_⟩
    · change d = s.conveyor
      rw [← hd, Conveyor.retargeted]
      split
      · rfl
      · exact truckChecked_of_away hl ht
    · exact hd.symm.trans (if_pos ⟨ht, hm⟩)
    · have hchecked : d = s.conveyor.truckChecked g s.setup.conveyor :=
        hd.symm.trans (if_neg (not_and_or.mpr hchange))
      change TruckChecked d _ _ _ _ _ _
      rw [hchecked]
      exact TruckChecked.of_step hunder hk (SameTruck.truckChecked _ _ _) truckChecked_follows
  · exact exec_refused (i := .writeSetupLimits tag w) rfl hs (takeWriteLimits_refused (s := countGood s) h)
  · have hf2 : w.filter.toNat ≤ 2 := by
      simpa [hf] using (filterPeriod_isSome w.filter.toNat).symm
    have hp2 : w.pair.toNat ≤ 2 := by
      simpa [hp] using (supplyPair_isSome w.pair.toNat).symm
    have hg := limitsOfWire_eq hf hp
    generalize Limits.mk _ _ _ = g at hg
    have htaken := takeWriteLimits_taken (s := countGood s) hg hf2 hp2
    have hnext := exec_answered (i := .writeSetupLimits tag w) rfl hs htaken rfl (by nofun) rfl
    have hcap := capInv_setHolds (setWorking s { s.setup with limits := g }) s.advance.holds
    refine ⟨_, g, hnext, rfl, ?_, hcap.congr rfl rfl⟩
    exact advance_written (a := (setHolds (setWorking s { s.setup with limits := g }) s.advance.holds).advance) rfl rfl
  · have htaken := takeWriteNotice_eq w (countGood s)
    have hnext := exec_answered (i := .writeSetupNotice tag w) rfl hs htaken rfl (by nofun) rfl
    refine ⟨_, hnext, ?_, fun c => ⟨levelsOfWire_get w c, ?_⟩⟩
    · unfold writeAnswer
      simp only [levelBytes_eq_iff]
      rfl
    · change (keptNotices (levelsOfWire w) s.notices.pending).get c = _
      rw [keptNotices_get, levelsOfWire_get]
      by_cases h3 : (w.get c).toNat < 3
      · rw [if_neg (by omega), if_pos h3]
      · rw [if_pos (by omega), if_neg h3]
  · refine exec_refused (i := .writeSetupLink tag b) rfl hs ?_
    change takeWriteLink b (countGood s) = _
    have hnone := eq_none_of_isSome (baud_isSome _) (Nat.not_le.mpr h)
    unfold takeWriteLink
    simp only [hnone]
  · exact exec_answered (i := .writeSetupLink tag b) rfl hs (takeWriteLink_taken (s := countGood s) h)

end Sys2Proof.Machine
end

section
/-! Writes of GEOMETRY, CHANNEL and SCAN by the checks of R181. -/

namespace Sys2Proof.Machine

open Sys2Proof

/-! ## The guard -/

theorem guardedRefusal_none {s : State} (hauto : NoAuto s) (hstopped : s.scanner.state = .stopped) :
    guardedRefusal s = none := by
  unfold guardedRefusal
  rw [(anyAuto_false_iff s).mpr hauto]
  simp [hstopped]

theorem guardedRefusal_some {s : State} {a : Answer} (h : ¬NoAuto s ∧ a = refuse .notAllowed .legAuto ∨
    NoAuto s ∧ s.scanner.state ≠ .stopped ∧ a = refuse .notAllowed .running) : guardedRefusal s = some a := by
  unfold guardedRefusal
  rcases h with ⟨hauto, rfl⟩ | ⟨hauto, hrunning, rfl⟩
  · rw [if_pos]
    by_contra hnot
    exact hauto ((anyAuto_false_iff s).mp (Bool.not_eq_true _ ▸ hnot))
  · rw [(anyAuto_false_iff s).mpr hauto]
    simp [hrunning]

/-! ## The field checks -/

theorem firstBad_append (l r : List (Nat × Bool)) : firstBad (l ++ r) = (firstBad l).or (firstBad r) := by
  simp [firstBad, List.find?_append, Option.map_or]

theorem slotFields_cons (offset count : Nat) (b : Byte) (rest : List Byte) :
    slotFields offset count (b :: rest) =
      (offset, decide (0 < count → b.toNat ≤ 7)) :: slotFields (offset + 1) (count - 1) rest := by
  have hpos (i : Nat) : i + 1 < count ↔ i < count - 1 := by omega
  unfold slotFields
  rw [List.length_cons, List.range_succ_eq_map, List.map_cons, List.map_map]
  simp [Function.comp_def, hpos, Nat.add_assoc, Nat.add_comm 1]

/-- The checks of a list's slots, those past the count left out or met, fail first at the same slot. -/
theorem firstBad_slots (offset count : Nat) (slots : List Byte) :
    firstBad (slotChecks offset count slots) = firstBad (slotFields offset count slots) := by
  induction slots generalizing offset count with
  | nil => simp [slotChecks, slotFields]
  | cons b rest ih =>
    rw [slotFields_cons]
    cases count with
    | zero =>
      have hnone := ih (offset + 1) 0
      rw [show slotChecks (offset + 1) 0 rest = [] from rfl] at hnone
      rw [show slotChecks offset 0 (b :: rest) = [] from rfl]
      simpa [firstBad_cons_true] using hnone
    | succ n =>
      have hcons : slotChecks offset (n + 1) (b :: rest) =
          (offset, decide (b.toNat ≤ 7)) :: slotChecks (offset + 1) n rest := rfl
      rw [hcons, Nat.add_sub_cancel]
      have hpos : (0 < n + 1 → b.toNat ≤ 7) ↔ b.toNat ≤ 7 := by simp
      simp only [hpos]
      by_cases h : b.toNat ≤ 7
      · simp only [h, decide_true, firstBad_cons_true]
        exact ih _ _
      · simp [h, firstBad]

/-- The field checks of GEOMETRY, in the words of the tables. -/
def geometryFields (w : GeometryWire) : List (Nat × Bool) :=
  [(3, decide (w.refSide.toNat ≤ 1)), (4, decide (w.refMode.toNat ≤ 2)),
   (5, decide (w.farMode.toNat ≤ 2)), (6, decide (1 ≤ w.refCount.toNat ∧ w.refCount.toNat ≤ 4))] ++
    slotFields 7 w.refCount.toNat w.refSlots.toList ++
    [(11, decide (1 ≤ w.farCount.toNat ∧ w.farCount.toNat ≤ 4))] ++
    slotFields 12 w.farCount.toNat w.farSlots.toList ++
    [(16, decide (w.slopeChannel.toNat ≤ 7)), (19, decide (w.sense.toNat ≤ 1))]

theorem firstBad_geometry (w : GeometryWire) : firstBad (geometryChecks w) = firstBad (geometryFields w) := by
  unfold geometryChecks geometryFields isChannel
  simp only [firstBad_append, firstBad_slots, sideOfCode_isSome, sideMode_isSome, encoderSense_isSome]

/-- The field checks of SCAN, in the words of the tables. -/
def scanFields (w : ScanWire) : List (Nat × Bool) :=
  [(1, decide (w.mode.toNat ≤ 1)), (2, decide (w.count.toNat ≤ 8))] ++
    slotFields 3 w.count.toNat w.slots.toList

theorem firstBad_scan (w : ScanWire) : firstBad (scanChecks w) = firstBad (scanFields w) := by
  unfold scanChecks scanFields
  simp only [firstBad_append, firstBad_slots, triggerMode_isSome]

theorem refuseFirst_bad {checks fields : List (Nat × Bool)} {off : Nat} (h : firstBad checks = firstBad fields)
    (hbad : FirstBad fields off) : refuseFirst checks = some (refuseField off) := by
  unfold refuseFirst
  rw [h, (firstBad_iff _ _).mpr hbad]
  rfl

theorem refuseFirst_good {checks fields : List (Nat × Bool)} (h : firstBad checks = firstBad fields)
    (hgood : ∀ q ∈ fields, q.2 = true) : refuseFirst checks = none := by
  unfold refuseFirst
  rw [h, (firstBad_none _).mpr hgood]
  rfl

/-! ## GEOMETRY -/

theorem channelOfByte_eq {b : Byte} {c : Channel} (h : c.val = b.toNat) : channelOfByte b = c := by
  apply Fin.ext
  simp only [channelOfByte, Fin.val_ofNat, h]
  exact Nat.mod_eq_of_lt (h ▸ c.isLt)

theorem geometryOfWire_eq {w : GeometryWire} {side : Side} {refMode farMode : SideMode} {slope : Channel}
    {sense : EncoderSense} (hside : sideOfCode w.refSide.toNat = some side)
    (href : SideMode.ofCode w.refMode.toNat = some refMode) (hfar : SideMode.ofCode w.farMode.toNat = some farMode)
    (hslope : slope.val = w.slopeChannel.toNat) (hsense : EncoderSense.ofCode w.sense.toNat = some sense) :
    geometryOfWire w = some
      { width := max 500 (min 4400 w.width.toNat), refSide := side, refMode := refMode, farMode := farMode,
        refGroup := { count := w.refCount.toNat, slots := w.refSlots },
        farGroup := { count := w.farCount.toNat, slots := w.farSlots }, slopeChannel := slope,
        pulses := max 100 (min 20000 w.pulses.toNat), sense := sense } := by
  simp [geometryOfWire, hside, href, hfar, hsense, channelOfByte_eq hslope, clampNat_eq]

section
variable {p : Setup} {g : Geometry} {kinds slopeKind once : Prop}
  (hkinds : kinds ↔ ∀ c, c ∈ g.refGroup.channels ∨ c ∈ g.farGroup.channels → (p.channels.get c).kind = .distance)
  (hslope : slopeKind ↔ (g.farMode = .slope → (p.channels.get g.slopeChannel).kind = .slope))
  (honce : once ↔ g.refGroup.channels.Nodup ∧ g.farGroup.channels.Nodup)
include hkinds hslope honce

theorem geometryRefusal_eq [Decidable kinds] [Decidable slopeKind] [Decidable once] : geometryRefusal p g =
    if g.refMode = .slope then some (refuse .badField .slopeSide)
    else if ¬kinds then some (refuse .badField .groupKind)
    else if ¬slopeKind then some (refuse .badField .slopeKind)
    else if ¬once then some (refuse .badField .repeated)
    else none := by
  have hall : (!(g.refGroup.channels.all (fun c => (p.channels.get c).kind == .distance) &&
      g.farGroup.channels.all fun c => (p.channels.get c).kind == .distance)) = true ↔ ¬kinds := by
    rw [hkinds, Bool.not_eq_true', ← Bool.not_eq_true, Bool.and_eq_true, List.all_eq_true, List.all_eq_true]
    simp only [beq_iff_eq, or_imp, forall_and]
  have hslope' : (g.farMode = .slope ∧ (p.channels.get g.slopeChannel).kind ≠ .slope) ↔ ¬slopeKind := by
    rw [hslope, Classical.not_imp]
  unfold geometryRefusal
  simp only [hall, hslope', honce]

theorem geometryRefusal_some {a : Answer} (h : g.refMode = .slope ∧ a = refuse .badField .slopeSide ∨
    g.refMode ≠ .slope ∧ ¬kinds ∧ a = refuse .badField .groupKind ∨
    g.refMode ≠ .slope ∧ kinds ∧ ¬slopeKind ∧ a = refuse .badField .slopeKind ∨
    g.refMode ≠ .slope ∧ kinds ∧ slopeKind ∧ ¬once ∧ a = refuse .badField .repeated) :
    geometryRefusal p g = some a := by
  classical
  rw [geometryRefusal_eq hkinds hslope honce]
  rcases h with ⟨h1, rfl⟩ | ⟨h1, h2, rfl⟩ | ⟨h1, h2, h3, rfl⟩ | ⟨h1, h2, h3, h4, rfl⟩
  · rw [if_pos h1]
  · rw [if_neg h1, if_pos h2]
  · rw [if_neg h1, if_neg (not_not.mpr h2), if_pos h3]
  · rw [if_neg h1, if_neg (not_not.mpr h2), if_neg (not_not.mpr h3), if_pos h4]

theorem geometryRefusal_none (h1 : g.refMode ≠ .slope) (h2 : kinds) (h3 : slopeKind) (h4 : once) :
    geometryRefusal p g = none := by
  classical
  rw [geometryRefusal_eq hkinds hslope honce, if_neg h1, if_neg (not_not.mpr h2), if_neg (not_not.mpr h3),
    if_neg (not_not.mpr h4)]

end

theorem takeWriteGeometry_of_good {s : State} {w : GeometryWire} {g : Geometry} (hguard : guardedRefusal s = none)
    (hfields : refuseFirst (geometryChecks w) = none) (hw : geometryOfWire w = some g) : takeWriteGeometry w s =
      ((geometryRefusal s.setup g).map fun a => (s, a)).getD (applyGeometry s g, writeAnswer 0 w.bytes g.wire.bytes) := by
  unfold takeWriteGeometry
  simp only [hguard, hfields, hw]
  cases geometryRefusal s.setup g <;> rfl

theorem modeChanged_eq (old new : Geometry) (d : Side) (g : GradeSide) : modeChanged old new d g =
    { g with lastUsed := if sideMode old d = sideMode new d then g.lastUsed else none } := by
  unfold modeChanged
  split <;> rfl

theorem applyGeometry_eq (s : State) (g : Geometry) : applyGeometry s g =
    { s with
      store := { s.store with working := { s.store.working with geometry := g } },
      travel := { s.travel with frac := 0, edges := 0, window := List.replicate 10 0, speed := 0 },
      grade := { s.grade with sides :=
        ⟨{ s.grade.sides.left with
            lastUsed := if sideMode s.setup.geometry .left = sideMode g .left then s.grade.sides.left.lastUsed
              else none },
          { s.grade.sides.right with
            lastUsed := if sideMode s.setup.geometry .right = sideMode g .right then s.grade.sides.right.lastUsed
              else none }⟩ } } := by
  unfold applyGeometry
  simp only [modeChanged_eq]
  rfl

/-! ## CHANNEL and SCAN -/

theorem channelOfWire_eq {w : ChannelWire} {kind : ChannelKind} (h : ChannelKind.ofCode w.kind.toNat = some kind) :
    channelOfWire w = some
      { kind := kind, gain := max (-2048) (min 2047 w.gain.toInt), offset := max (-256) (min 255 w.offset.toInt),
        span := max 1 (min (if kind = .slope then 1000 else 2000) w.span.toNat),
        mount := max (-5000) (min 5000 w.mount.toInt), spike := min 400 w.spike.toNat } := by
  have hspan : spanMax kind = if kind = .slope then 1000 else 2000 := by cases kind <;> rfl
  have hle : 1 ≤ spanMax kind := by cases kind <;> decide
  rw [hspan] at hle
  simp only [channelOfWire, h, Option.map_some, clampNat_zero, hspan, clampNat_eq hle]
  simp [clamp_eq]

/-- A record made STALE with its runs at 0 (R18, R19). -/
theorem staled_staled (r : ChannelRecord) : r.staled.staled = r.staled := (rfl)

theorem staleRecords_records (cs : List Channel) (s : State) : ∃ v,
    cs.foldl staleRecord s = s.setScanner { s.scanner with records := v } ∧
      ∀ c, v.get c = if c ∈ cs then (s.scanner.records.get c).staled else s.scanner.records.get c := by
  induction cs generalizing s with
  | nil => exact ⟨s.scanner.records, rfl, fun c => by simp⟩
  | cons k cs ih =>
    obtain ⟨v, hv, hget⟩ := ih (staleRecord s k)
    refine ⟨v, hv, fun c => ?_⟩
    have hrecord : (staleRecord s k).scanner.records =
        s.scanner.records.set k (s.scanner.records.get k).staled := rfl
    rw [hget, hrecord]
    by_cases hc : c = k
    · subst hc
      simp [staled_staled]
    · rw [Octet.get_set_ne _ _ _ _ (Ne.symm hc)]
      simp [hc]

theorem applyScan_records (s : State) (g : ScanSetup) : ∃ v, applyScan s g =
    { s with
      store := { s.store with working := { s.store.working with scan := g } },
      travel := { s.travel with
        triggerCount := 0, triggerTimer := s.travel.triggerTimer.map fun _ => g.standstillPeriod },
      scanner := { s.scanner with records := v } } ∧
    ∀ c, v.get c = if c ∈ s.setup.scan.list ∧ c ∉ g.list then
        { s.scanner.records.get c with state := .stale, outRun := 0, goodRun := 0, spikeRun := 0 }
      else s.scanner.records.get c := by
  obtain ⟨v, hv, hget⟩ := staleRecords_records (s.setup.scan.list.filter fun c => !g.list.contains c)
    ((setWorking s { s.setup with scan := g }).setTravel (s.travel.rescanned g.standstillPeriod))
  refine ⟨v, hv, fun c => ?_⟩
  rw [hget]
  simp only [List.mem_filter, Bool.not_eq_true', List.contains_eq_mem, decide_eq_false_iff_not]
  rfl

theorem scanOfWire_eq {w : ScanWire} {mode : TriggerMode} (h : TriggerMode.ofCode w.mode.toNat = some mode) :
    scanOfWire w = some
      { mode := mode, count := w.count.toNat, slots := w.slots,
        prescaler := max 1 (min 16 w.prescaler.toNat), period := max 1 (min 250 w.period.toNat),
        settle := max 20 (min 500 w.settle.toNat), park := min 30 w.park.toNat,
        distance := max 1 (min 50 w.distance.toNat),
        standstillPeriod := max 50 (min 1000 w.standstillPeriod.toNat) } := by
  simp only [scanOfWire, h, Option.map_some, clampNat_zero]
  simp [clampNat_eq]

section
variable {p : Setup} {g : ScanSetup} {heads : Prop} (hheads : heads ↔ ∀ c ∈ g.list, (p.channels.get c).kind ≠ .noHead)
include hheads

theorem anyNoHead_iff : (g.list.any fun c => (p.channels.get c).kind == .noHead) = true ↔ ¬heads := by
  rw [hheads, List.any_eq_true]
  simp

theorem scanRefusal_some {a : Answer} (h : ¬g.list.Nodup ∧ a = refuse .badField .repeated ∨
    g.list.Nodup ∧ ¬heads ∧ a = refuse .badField .noneListed) : scanRefusal p g = some a := by
  unfold scanRefusal
  rcases h with ⟨hdup, rfl⟩ | ⟨honce, hbad, rfl⟩
  · rw [if_pos hdup]
  · rw [if_neg (not_not.mpr honce), if_pos ((anyNoHead_iff hheads).mpr hbad)]

theorem scanRefusal_none (honce : g.list.Nodup) (h : heads) : scanRefusal p g = none := by
  unfold scanRefusal
  rw [if_neg (not_not.mpr honce), if_neg (mt (anyNoHead_iff hheads).mp (not_not.mpr h))]

end

theorem takeWriteScan_of_good {s : State} {w : ScanWire} {g : ScanSetup} (hguard : guardedRefusal s = none)
    (hfields : refuseFirst (scanChecks w) = none) (hw : scanOfWire w = some g) : takeWriteScan w s =
      ((scanRefusal s.setup g).map fun a => (s, a)).getD (applyScan s g, writeAnswer 11 w.bytes g.wire.bytes) := by
  unfold takeWriteScan
  simp only [hguard, hfields, hw]
  cases scanRefusal s.setup g <;> rfl

theorem takeWrite_guarded {s : State} {a : Answer} (h : guardedRefusal s = some a) (w : GeometryWire) (c : Channel)
    (cw : ChannelWire) (sw : ScanWire) :
    takeWriteGeometry w s = (s, a) ∧ takeWriteChannel c cw s = (s, a) ∧ takeWriteScan sw s = (s, a) := by
  unfold takeWriteGeometry takeWriteChannel takeWriteScan
  simp only [h, and_self]

/-- Settles O58: the checks of R181 in order, and what the owners take of an accepted group. -/
theorem guardedGroupsWritten : Obligations.GuardedGroupsWritten := by
  unfold Obligations.GuardedGroupsWritten
  intro tag s hs
  refine ⟨fun a w c cw sw h => ?_, fun hauto hstopped => ⟨fun w fields hfields => ⟨fun off hbad => ?_,
    fun side refMode farMode slope sense g kinds slopeKind once hgood hside href hfar hchannel hsense hg hkinds hslope
      honce => ⟨fun a ha => ?_, fun h1 h2 h3 h4 => ?_⟩⟩, fun c w => ⟨fun hbad => ?_,
    fun kind g hkind hg => ⟨fun hno hc => ?_, fun hc => ?_⟩⟩, fun w fields hfields => ⟨fun off hbad => ?_,
    fun mode g heads hgood hmode hg hheads => ⟨fun a ha => ?_, fun honce h => ?_⟩⟩⟩⟩
  · obtain ⟨hgeometry, hchannel, hscan⟩ := takeWrite_guarded (guardedRefusal_some (s := countGood s) h) w c cw sw
    exact ⟨exec_refused (i := .writeSetupGeometry tag w) rfl hs hgeometry,
      exec_refused (i := .writeSetupChannel tag c cw) rfl hs hchannel,
      exec_refused (i := .writeSetupScan tag sw) rfl hs hscan⟩
  all_goals have hguard : guardedRefusal (countGood s) = none := guardedRefusal_none (s := countGood s) hauto hstopped
  · replace hfields : fields = geometryFields w := hfields
    subst hfields
    have hrefused := refuseFirst_bad (firstBad_geometry w) hbad
    refine exec_refused (i := .writeSetupGeometry tag w) rfl hs ?_
    change takeWriteGeometry w (countGood s) = _
    unfold takeWriteGeometry
    simp only [hguard, hrefused]
  · replace hfields : fields = geometryFields w := hfields
    subst hfields
    have hw := geometryOfWire_eq hside href hfar hchannel hsense
    rw [← hg] at hw
    have htaken := takeWriteGeometry_of_good hguard (refuseFirst_good (firstBad_geometry w) hgood) hw
    rw [geometryRefusal_some (p := (countGood s).setup) hkinds (by subst hg; exact hslope) honce
      (by subst hg; exact ha)] at htaken
    exact exec_refused (i := .writeSetupGeometry tag w) rfl hs htaken
  · replace hfields : fields = geometryFields w := hfields
    subst hfields
    have hw := geometryOfWire_eq hside href hfar hchannel hsense
    rw [← hg] at hw
    have htaken := takeWriteGeometry_of_good hguard (refuseFirst_good (firstBad_geometry w) hgood) hw
    rw [geometryRefusal_none (p := (countGood s).setup) hkinds (by subst hg; exact hslope) honce
      (by subst hg; exact h1) h2 h3 h4, Option.map_none, Option.getD_none, applyGeometry_eq] at htaken
    exact exec_answered (i := .writeSetupGeometry tag w) rfl hs htaken
  · have hnone := eq_none_of_isSome (channelKind_isSome _) (Nat.not_le.mpr hbad)
    refine exec_refused (i := .writeSetupChannel tag c w) rfl hs ?_
    change takeWriteChannel c w (countGood s) = _
    unfold takeWriteChannel channelOfWire
    simp only [hguard, hnone, Option.map_none]
  · have hw := channelOfWire_eq hkind
    rw [← hg] at hw
    refine exec_refused (i := .writeSetupChannel tag c w) rfl hs ?_
    change takeWriteChannel c w (countGood s) = _
    unfold takeWriteChannel
    simp only [hguard, hw]
    exact if_pos ⟨by rw [hg]; exact hno, List.contains_iff_mem.mpr hc⟩
  · have hw := channelOfWire_eq hkind
    rw [← hg] at hw
    have htaken : takeRequest (.writeChannel c w) (countGood s) =
        (staleRecord (setWorking (countGood s) { s.setup with channels := s.setup.channels.set c g }) c,
          writeAnswer (channelGroup c) w.bytes g.wire.bytes) := by
      change takeWriteChannel c w (countGood s) = _
      unfold takeWriteChannel
      simp only [hguard, hw]
      refine if_neg fun hno => hc ?_ (List.contains_iff_mem.mp hno.2)
      have hkept := hno.1
      rw [hg] at hkept
      exact hkept
    exact exec_answered (i := .writeSetupChannel tag c w) rfl hs htaken
  · replace hfields : fields = scanFields w := hfields
    subst hfields
    have hrefused := refuseFirst_bad (firstBad_scan w) hbad
    refine exec_refused (i := .writeSetupScan tag w) rfl hs ?_
    change takeWriteScan w (countGood s) = _
    unfold takeWriteScan
    simp only [hguard, hrefused]
  · replace hfields : fields = scanFields w := hfields
    subst hfields
    have hw := scanOfWire_eq hmode
    rw [← hg] at hw
    have htaken := takeWriteScan_of_good hguard (refuseFirst_good (firstBad_scan w) hgood) hw
    rw [scanRefusal_some (p := (countGood s).setup) hheads ha] at htaken
    exact exec_refused (i := .writeSetupScan tag w) rfl hs htaken
  · replace hfields : fields = scanFields w := hfields
    subst hfields
    have hw := scanOfWire_eq hmode
    rw [← hg] at hw
    have htaken := takeWriteScan_of_good hguard (refuseFirst_good (firstBad_scan w) hgood) hw
    obtain ⟨v, hv, hget⟩ := applyScan_records (countGood s) g
    rw [scanRefusal_none (p := (countGood s).setup) hheads honce h, Option.map_none, Option.getD_none, hv] at htaken
    have hnext := exec_answered (i := .writeSetupScan tag w) rfl hs htaken rfl (by nofun) rfl
    exact ⟨_, hnext, rfl, hget⟩

end Sys2Proof.Machine
end

section
/-! One sample of a channel (R32 to R36), and the samples of a pass over the scan list (R25). -/

namespace Sys2Proof.Machine

open Sys2Proof

/-! ## One sample -/

theorem inRange_iff (r : Nat) : inRange r = true ↔ ¬OutOfRange r := by
  unfold inRange OutOfRange
  rw [decide_eq_true_iff]
  omega

theorem calibrate_eq (p : ChannelSetup) (r : Nat) : (calibrate p r : Int) =
    max 0 (min 4095 (r + roundDiv ((r : Int) * p.gain) 16384 + p.offset)) := by
  unfold calibrate
  rw [clamp_eq (by decide)]
  omega

/-- What the judgement of a sample in range leaves of the record it is given. -/
structure KeepsSample (rec new : ChannelRecord) : Prop where
  raw : new.raw = rec.raw
  calibrated : new.calibrated = rec.calibrated
  outRun : new.outRun = rec.outRun
  goodRun : new.goodRun = rec.goodRun

theorem KeepsSample.accept (rec : ChannelRecord) (v : Int) : KeepsSample rec (rec.accept v) := ⟨rfl, rfl, rfl, rfl⟩

theorem KeepsSample.spikeFilter (limit : Nat) (rec : ChannelRecord) (v : Int) :
    KeepsSample rec (spikeFilter limit rec v) := by
  unfold Machine.spikeFilter ChannelRecord.offLimit
  simp only
  split_ifs <;> exact ⟨rfl, rfl, rfl, rfl⟩

theorem judgeSample_keeps (limit : Nat) (rec : ChannelRecord) (v : Int) :
    KeepsSample rec (judgeSample limit rec v).1 := by
  unfold judgeSample
  cases rec.state with
  | stale => exact .accept rec v
  | fault =>
    simp only
    split
    · exact .accept rec v
    · exact ⟨rfl, rfl, rfl, rfl⟩
  | valid => exact .spikeFilter limit rec v
  | spikeHeld => exact .spikeFilter limit rec v

/-- A sample beyond the spike limit is above or below the accepted value (R35). -/
theorem spikeFilter_off {limit : Nat} {rec : ChannelRecord} {v : Int} {side : SpikeSide} (hl : 0 < limit)
    (h : side = .above ∧ rec.value + limit < v ∨ side = .below ∧ v < rec.value - limit) :
    spikeFilter limit rec v = rec.offLimit v side := by
  have hfar : ¬(limit = 0 ∨ (v - rec.value).natAbs ≤ limit) := by omega
  unfold spikeFilter
  rw [if_neg hfar]
  rcases h with ⟨rfl, hv⟩ | ⟨rfl, hv⟩
  · rw [if_pos (by omega)]
  · rw [if_neg (by omega)]

theorem sampleOut_judged (p : ChannelSetup) (old : ChannelRecord) {r : Nat} (hr : OutOfRange r) :
    SampleJudged p old (sampleOut old r).1 r := by
  unfold sampleOut
  by_cases hfault : 3 ≤ old.outRun + 1 ∧ old.state ≠ .fault
  · simp only [if_pos hfault]
    exact ⟨rfl, fun _ => ⟨rfl, rfl, rfl, rfl, fun _ => ⟨rfl, rfl⟩, fun hnot => absurd ⟨hr, hfault.2, by omega⟩ hnot⟩,
      fun hin => absurd hr hin⟩
  · simp only [if_neg hfault]
    exact ⟨rfl, fun _ => ⟨rfl, rfl, rfl, rfl, fun henters => absurd ⟨by omega, henters.2.1⟩ hfault,
      fun _ => ⟨rfl, rfl⟩⟩, fun hin => absurd hr hin⟩

/-- The spike filter on a channel that holds an accepted value (R35). -/
theorem spikeFilter_judged {p : ChannelSetup} {old rec new : ChannelRecord} {v : Int}
    (hvalue : rec.value = old.value) (hrun : rec.spikeRun = old.spikeRun) (hside : rec.spikeSide = old.spikeSide)
    (hnew : new = spikeFilter p.spike rec v) :
    (p.spike = 0 ∨ (v - old.value).natAbs ≤ p.spike → new.state = .valid ∧ new.value = v ∧ new.spikeRun = 0) ∧
      ∀ side run, 0 < p.spike →
        (side = .above ∧ old.value + p.spike < v ∨ side = .below ∧ v < old.value - p.spike) →
        run = (if 0 < old.spikeRun ∧ old.spikeSide = side then old.spikeRun + 1 else 1) →
        (4 ≤ run → new.state = .valid ∧ new.value = v ∧ new.spikeRun = 0) ∧
        (run < 4 → new.state = .spikeHeld ∧ new.value = old.value ∧ new.spikeRun = run ∧ new.spikeSide = side) := by
  refine ⟨fun h => ?_, fun side run hl h hr => ?_⟩
  · rw [hnew, spikeFilter, if_pos (by rwa [hvalue])]
    exact ⟨rfl, rfl, rfl⟩
  · rw [hnew, spikeFilter_off hl (by rwa [hvalue]), ChannelRecord.offLimit]
    simp only [hrun, hside, ← hr]
    refine ⟨fun h4 => ?_, fun h4 => ?_⟩
    · rw [if_pos h4]
      exact ⟨rfl, rfl, rfl⟩
    · rw [if_neg (Nat.not_le.mpr h4)]
      exact ⟨rfl, hvalue, rfl, rfl⟩

/-- A record as a sample in range finds it, before the value is judged (R32, R33). -/
def ChannelRecord.ranged (p : ChannelSetup) (old : ChannelRecord) (r : Nat) : ChannelRecord :=
  { old with raw := r, calibrated := calibrate p r, outRun := 0, goodRun := holdRun old.goodRun }

theorem recovers_iff {p : ChannelSetup} {old : ChannelRecord} {r : Nat} (hr : ¬OutOfRange r) (h : old.state = .fault) :
    Recovers old r ↔ 5 ≤ (old.ranged p r).goodRun := by
  have hrun : (old.ranged p r).goodRun = min 255 (old.goodRun + 1) := rfl
  unfold Recovers
  rw [hrun]
  simp only [hr, h, not_false_eq_true, true_and]
  omega

theorem sampleIn_judged (p : ChannelSetup) (old : ChannelRecord) {r : Nat} (hr : ¬OutOfRange r) :
    SampleJudged p old (sampleIn p old r).1 r := by
  obtain ⟨hraw, hcalibrated, hout, hgood⟩ := judgeSample_keeps p.spike (old.ranged p r) (scale p (calibrate p r))
  refine ⟨hraw, fun hout => absurd hout hr, fun _ => ⟨hout, hgood, ?_, fun v hv => ?_⟩⟩
  · exact (congrArg Nat.cast hcalibrated).trans (calibrate_eq p r)
  · have hv' : scale p (calibrate p r) = v := by
      have hc : (sampleIn p old r).1.calibrated = calibrate p r := hcalibrated
      rw [hv, hc]
      rfl
    have hsample : sampleIn p old r = judgeSample p.spike (old.ranged p r) v := hv' ▸ rfl
    rw [hsample]
    refine ⟨fun h => ?_, fun hfault hnot => ?_, fun h => ?_⟩
    · rcases h with hstale | hrecovers
      · have hjudged : judgeSample p.spike (old.ranged p r) v = ((old.ranged p r).accept v, .quiet) := by
          unfold judgeSample
          simp only [show (old.ranged p r).state = .stale from hstale]
        rw [hjudged]
        exact ⟨rfl, rfl, rfl⟩
      · have hjudged : judgeSample p.spike (old.ranged p r) v = ((old.ranged p r).accept v, .recovers) := by
          unfold judgeSample
          simp only [show (old.ranged p r).state = .fault from hrecovers.2.1]
          exact if_pos ((recovers_iff hr hrecovers.2.1).mp hrecovers)
        rw [hjudged]
        exact ⟨rfl, rfl, rfl⟩
    · have hjudged : judgeSample p.spike (old.ranged p r) v =
          ({ old.ranged p r with value := v, spikeRun := 0 }, .quiet) := by
        unfold judgeSample
        simp only [show (old.ranged p r).state = .fault from hfault]
        exact if_neg (mt (recovers_iff hr hfault).mpr hnot)
      rw [hjudged]
      exact ⟨hfault, rfl, rfl⟩
    · have hjudged : judgeSample p.spike (old.ranged p r) v = (spikeFilter p.spike (old.ranged p r) v, .quiet) := by
        unfold judgeSample
        rcases h with h | h
        · simp only [show (old.ranged p r).state = .valid from h]
        · simp only [show (old.ranged p r).state = .spikeHeld from h]
      rw [hjudged]
      exact spikeFilter_judged (rec := old.ranged p r) rfl rfl rfl rfl

theorem processSample_judged (p : ChannelSetup) (old : ChannelRecord) (r : Nat) :
    SampleJudged p old (processSample p old r).1 r := by
  unfold processSample
  by_cases hr : OutOfRange r
  · rw [if_neg (mt (inRange_iff r).mp (not_not.mpr hr))]
    exact sampleOut_judged p old hr
  · rw [if_pos ((inRange_iff r).mpr hr)]
    exact sampleIn_judged p old hr

theorem judgeSample_event (limit : Nat) (rec : ChannelRecord) (v : Int) : (judgeSample limit rec v).2 =
    if rec.state = .fault ∧ 5 ≤ rec.goodRun then .recovers else .quiet := by
  unfold judgeSample
  cases rec.state with
  | fault =>
    simp only [true_and]
    split <;> rfl
  | _ => rfl

/-- What a sample does beside its record (R32, R36). -/
theorem processSample_event (p : ChannelSetup) (old : ChannelRecord) (r : Nat) : (processSample p old r).2 =
    if EntersFault old r then .entersFault else if Recovers old r then .recovers else .quiet := by
  unfold processSample
  by_cases hr : OutOfRange r
  · rw [if_neg (mt (inRange_iff r).mp (not_not.mpr hr)), if_neg (c := Recovers old r) fun h => h.1 hr]
    unfold sampleOut
    by_cases hfault : 3 ≤ old.outRun + 1 ∧ old.state ≠ .fault
    · rw [if_pos (c := EntersFault old r) ⟨hr, hfault.2, by omega⟩]
      simp only [if_pos hfault]
    · rw [if_neg (c := EntersFault old r) fun h => hfault ⟨by omega, h.2.1⟩]
      simp only [if_neg hfault]
  · rw [if_pos ((inRange_iff r).mpr hr), if_neg (c := EntersFault old r) fun h => hr h.1]
    change (judgeSample p.spike (old.ranged p r) (scale p (calibrate p r))).2 = _
    rw [judgeSample_event]
    by_cases hs : old.state = .fault
    · simp only [show (old.ranged p r).state = .fault from hs, true_and, ← recovers_iff (p := p) hr hs]
    · rw [if_neg (c := Recovers old r) fun h => hs h.2.1, if_neg fun h => hs h.1]

theorem EntersFault.not_recovers {old : ChannelRecord} {r : Nat} (h : EntersFault old r) : ¬Recovers old r :=
  fun k => k.1 h.1

/-! ## The samples of a list -/

/-- What the sample of a channel posts, given its record (R32, R36). -/
def sampleOccurs (x : Nat) (records : Octet ChannelRecord) (raw : Channel → Nat) (c : Channel) : List Occurrence :=
  if EntersFault (records.get c) (raw c) then [⟨.channelFault, x, .channelFault c (raw c)⟩]
  else if Recovers (records.get c) (raw c) then [⟨.channelRecovered, x, .channelRecovered c⟩] else []

theorem samplePosts_eq (s : State) (raw : Channel → Nat) (c : Channel) :
    samplePosts s c (raw c) = sampleOccurs s.travel.station s.scanner.records raw c := by
  unfold samplePosts sampleOccurs
  rw [processSample_event]
  by_cases hf : EntersFault (s.scanner.records.get c) (raw c)
  · simp only [if_pos hf]
  · by_cases hr : Recovers (s.scanner.records.get c) (raw c)
    · simp only [if_neg hf, if_pos hr]
    · simp only [if_neg hf, if_neg hr]

theorem sampleOccurs_cls {x : Nat} {records : Octet ChannelRecord} {raw : Channel → Nat} {c : Channel} {o : Occurrence}
    (h : o ∈ sampleOccurs x records raw c) : o.cls = .channelFault ∨ o.cls = .channelRecovered := by
  unfold sampleOccurs at h
  split at h
  · exact .inl (List.mem_singleton.mp h ▸ rfl)
  · split at h
    · exact .inr (List.mem_singleton.mp h ▸ rfl)
    · exact nomatch h

/-- A channel's record is written, and the rest but the line stays (R25). -/
theorem offLine_processChannel (s : State) (c : Channel) (r : Nat) : OffLine
    (setRecord s c (processSample (s.setup.channels.get c) (s.scanner.records.get c) r).1) (processChannel s c r) := by
  unfold processChannel
  simp only
  cases (processSample (s.setup.channels.get c) (s.scanner.records.get c) r).2 with
  | quiet => exact OffLine.refl _
  | entersFault => exact offLine_post _ _ _
  | recovers => exact offLine_post _ _ _

/-- The samples of a list of channels processed in their order (R25). -/
def processList (s : State) (raw : Channel → Nat) (cs : List Channel) : State :=
  cs.foldl (fun s c => processChannel s c (raw c)) s

/-- What the samples of a list leave: v are the records, l what was posted. -/
structure ListProcessed (s t : State) (raw : Channel → Nat) (cs : List Channel) (v : Octet ChannelRecord)
    (l : List Occurrence) : Prop where
  posted : Posted s t l
  offLine : OffLine (s.setScanner { s.scanner with records := v }) t
  classes : ∀ o ∈ l, o.cls = .channelFault ∨ o.cls = .channelRecovered
  others : ∀ c, c ∉ cs → v.get c = s.scanner.records.get c
  listed : cs.Nodup → ∀ c ∈ cs,
    v.get c = (processSample (s.setup.channels.get c) (s.scanner.records.get c) (raw c)).1
  occurs : cs.Nodup → l = cs.flatMap (sampleOccurs s.travel.station s.scanner.records raw)

theorem sampleOccurs_congr {x : Nat} {v w : Octet ChannelRecord} {raw : Channel → Nat} {cs : List Channel}
    (h : ∀ c ∈ cs, v.get c = w.get c) : cs.flatMap (sampleOccurs x v raw) = cs.flatMap (sampleOccurs x w raw) := by
  refine List.flatMap_congr fun c hc => ?_
  unfold sampleOccurs
  rw [h c hc]

theorem processList_processed (s : State) (raw : Channel → Nat) (cs : List Channel) :
    ∃ v l, ListProcessed s (processList s raw cs) raw cs v l := by
  induction cs generalizing s with
  | nil =>
    exact ⟨s.scanner.records, [], Posted.refl s, OffLine.refl s, nofun, fun _ _ => rfl, fun _ => nofun, fun _ => rfl⟩
  | cons c cs ih =>
    have hposted := processChannel_posted s c (raw c)
    rw [samplePosts_eq] at hposted
    have hoff := offLine_processChannel s c (raw c)
    change ∃ v l, ListProcessed s (processList (processChannel s c (raw c)) raw cs) raw (c :: cs) v l
    generalize hrec : (processSample (s.setup.channels.get c) (s.scanner.records.get c) (raw c)).1 = rec at hoff
    generalize processChannel s c (raw c) = t at hposted hoff
    obtain ⟨v, l, hrest⟩ := ih t
    have hsetup : t.setup = s.setup := by rw [hoff]; rfl
    have hstation : t.travel = s.travel := by rw [hoff]; rfl
    have hrecords : t.scanner.records = s.scanner.records.set c rec := by rw [hoff]; rfl
    have hother (e : Channel) (he : e ≠ c) : t.scanner.records.get e = s.scanner.records.get e := by
      rw [hrecords, Octet.get_set_ne _ _ _ _ he.symm]
    refine ⟨v, _, hposted.trans hrest.posted, ?_, fun o ho => ?_, fun e he => ?_, fun hn e he => ?_, fun hn => ?_⟩
    · have hrestOff := hrest.offLine
      unfold OffLine at *
      rw [hrestOff, hoff]
      rfl
    · rcases List.mem_append.mp ho with ho | ho
      · exact sampleOccurs_cls ho
      · exact hrest.classes o ho
    · rw [hrest.others e fun h => he (List.mem_cons_of_mem _ h), hother e fun h => he (h ▸ List.mem_cons_self)]
    · obtain ⟨hc, hn⟩ := List.nodup_cons.mp hn
      rcases List.mem_cons.mp he with rfl | he
      · rw [hrest.others e hc, hrecords, Octet.get_set_self, hrec]
      · rw [hrest.listed hn e he, hsetup, hother e fun h => hc (h ▸ he)]
    · obtain ⟨hc, hn⟩ := List.nodup_cons.mp hn
      rw [hrest.occurs hn, List.flatMap_cons, hstation,
        sampleOccurs_congr fun e he => hother e fun h => hc (h ▸ he)]

/-! ## The notices of a pass -/

section
variable {x : Nat} {records : Octet ChannelRecord} {raw : Channel → Nat} {cs : List Channel}

theorem sampleOccurs_fault {c : Channel} (h : EntersFault (records.get c) (raw c)) :
    sampleOccurs x records raw c = [⟨.channelFault, x, .channelFault c (raw c)⟩] := if_pos h

theorem sampleOccurs_recovered {c : Channel} (h : Recovers (records.get c) (raw c)) :
    sampleOccurs x records raw c = [⟨.channelRecovered, x, .channelRecovered c⟩] :=
  (if_neg fun k : EntersFault _ _ => k.not_recovers h).trans (if_pos h)

theorem sampleOccurs_quiet {c : Channel} (hf : ¬EntersFault (records.get c) (raw c))
    (hr : ¬Recovers (records.get c) (raw c)) : sampleOccurs x records raw c = [] :=
  (if_neg hf).trans (if_neg hr)

theorem fault_of_mem {c : Channel} {o : Occurrence} (h : o ∈ sampleOccurs x records raw c)
    (ho : o.cls = .channelFault) : EntersFault (records.get c) (raw c) := by
  by_contra hf
  by_cases hr : Recovers (records.get c) (raw c)
  · rw [sampleOccurs_recovered hr, List.mem_singleton] at h
    subst h
    exact nomatch ho
  · rw [sampleOccurs_quiet hf hr] at h
    exact nomatch h

theorem recovered_of_mem {c : Channel} {o : Occurrence} (h : o ∈ sampleOccurs x records raw c)
    (ho : o.cls = .channelRecovered) : Recovers (records.get c) (raw c) := by
  by_contra hr
  by_cases hf : EntersFault (records.get c) (raw c)
  · rw [sampleOccurs_fault hf, List.mem_singleton] at h
    subst h
    exact nomatch ho
  · rw [sampleOccurs_quiet hf hr] at h
    exact nomatch h

theorem any_fault : ((cs.flatMap (sampleOccurs x records raw)).any fun o => decide (o.cls = .channelFault)) = true ↔
    ∃ c ∈ cs, EntersFault (records.get c) (raw c) := by
  simp only [List.any_eq_true, List.mem_flatMap, decide_eq_true_iff]
  constructor
  · rintro ⟨o, ⟨c, hc, ho⟩, hcls⟩
    exact ⟨c, hc, fault_of_mem ho hcls⟩
  · rintro ⟨c, hc, hf⟩
    exact ⟨_, ⟨c, hc, sampleOccurs_fault hf ▸ List.mem_singleton_self _⟩, rfl⟩

theorem any_recovered :
    ((cs.flatMap (sampleOccurs x records raw)).any fun o => decide (o.cls = .channelRecovered)) = true ↔
      ∃ c ∈ cs, Recovers (records.get c) (raw c) := by
  simp only [List.any_eq_true, List.mem_flatMap, decide_eq_true_iff]
  constructor
  · rintro ⟨o, ⟨c, hc, ho⟩, hcls⟩
    exact ⟨c, hc, recovered_of_mem ho hcls⟩
  · rintro ⟨c, hc, hr⟩
    exact ⟨_, ⟨c, hc, sampleOccurs_recovered hr ▸ List.mem_singleton_self _⟩, rfl⟩

/-- A pass with one occurrence posts it alone. -/
theorem occurs_alone {c : Channel} {o : Occurrence} (hn : cs.Nodup) (hc : c ∈ cs)
    (ho : sampleOccurs x records raw c = [o])
    (hq : ∀ e ∈ cs, e ≠ c → ¬EntersFault (records.get e) (raw e) ∧ ¬Recovers (records.get e) (raw e)) :
    cs.flatMap (sampleOccurs x records raw) = [o] := by
  obtain ⟨before, after, rfl⟩ := List.append_of_mem hc
  obtain ⟨-, hafter, hdisjoint⟩ := List.nodup_append.mp hn
  have hquiet (l : List Channel) (hl : ∀ e ∈ l, e ∈ before ++ c :: after ∧ e ≠ c) :
      l.flatMap (sampleOccurs x records raw) = [] :=
    List.flatMap_eq_nil_iff.mpr fun e he =>
      have hqe := hq e (hl e he).1 (hl e he).2
      sampleOccurs_quiet hqe.1 hqe.2
  rw [List.flatMap_append, List.flatMap_cons, ho, hquiet before fun e he => ⟨by simp [he], hdisjoint e he c (by simp)⟩,
    hquiet after fun e he => ⟨by simp [he], fun h => (List.nodup_cons.mp hafter).1 (h ▸ he)⟩]
  rfl

end

/-- The notice of a class is that of the last channel that posted it. -/
theorem ListProcessed.lastNotice {s t : State} {raw : Channel → Nat} {v : Octet ChannelRecord} {l : List Occurrence}
    {before after : List Channel} {c : Channel} {k : NoticeClass} {d : NoticeDetail}
    (h : ListProcessed s t raw (before ++ c :: after) v l) (hn : (before ++ c :: after).Nodup)
    (hb : s.link.tx ≠ .idle) (hl : s.setup.levels.get k < 3)
    (hc : sampleOccurs s.travel.station s.scanner.records raw c = [⟨k, s.travel.station, d⟩])
    (ha : ∀ e ∈ after, ∀ o ∈ sampleOccurs s.travel.station s.scanner.records raw e, o.cls ≠ k) :
    ∃ n, t.notices.pending.get k = some n ∧ n.station = s.travel.station ∧ n.detail = d := by
  have hposted := h.posted
  rw [h.occurs hn, List.flatMap_append, List.flatMap_cons, hc, List.singleton_append] at hposted
  have hlast := hposted.busy_pending_last hb hl fun o ho => by
    obtain ⟨e, he, hoe⟩ := List.mem_flatMap.mp ho
    exact ha e he o hoe
  exact ⟨_, hlast, rfl, rfl⟩

theorem ListProcessed.samplesTaken {s t : State} {raw : Octet (BitVec 12)} {v : Octet ChannelRecord}
    {l : List Occurrence} (h : ListProcessed s t (fun c => (raw.get c).toNat) s.setup.scan.list v l) :
    SamplesTaken s t raw := by
  have hv : t.scanner.records = v := by rw [h.offLine]; rfl
  have hone (k : NoticeClass) (d : NoticeDetail) (hl : l = [⟨k, s.travel.station, d⟩]) (hs : LineInv s) :
      t.notices = Notices.occurred s k s.travel.station d ∧ t.link = Link.occurred s k s.travel.station d := by
    have hposted := h.posted
    have hp : postAll s [⟨k, s.travel.station, d⟩] = s.occurred k s.travel.station d := postAt_eq s _ _ _ hs
    rw [hl] at hposted
    exact ⟨hposted.notices.trans (hp ▸ rfl), hposted.link.trans (hp ▸ rfl)⟩
  have hcls (k : NoticeClass) (h1 : k ≠ .channelFault) (h2 : k ≠ .channelRecovered) : ∀ o ∈ l, o.cls ≠ k := by
    rintro o ho rfl
    exact (h.classes o ho).elim h1 h2
  refine ⟨fun hn c hc => ?_, fun c hc => ?_, fun hn => ?_, fun hn => ?_, fun k h1 h2 => ?_, fun hb => ⟨?_, fun k h1 h2 => ?_⟩,
    fun before c after hb hl hn heq hf ha => ?_, fun before c after hb hl hn heq hr ha => ?_,
    fun hs hn c hc k d hk hq => ?_, fun hn hq => ?_⟩
  · rw [hv, h.listed hn c hc]
    exact processSample_judged _ _ _
  · rw [hv, h.others c hc]
  · have hflag := h.posted.latched .channelFault
    rw [h.occurs hn] at hflag
    rw [show t.notices.latched.channelFault = _ from hflag, Bool.or_eq_true, any_fault]
    rfl
  · have hflag := h.posted.latched .channelRecovered
    rw [h.occurs hn] at hflag
    rw [show t.notices.latched.channelRecovered = _ from hflag, Bool.or_eq_true, any_recovered]
    rfl
  · have hnone : (l.any fun o => decide (o.cls = k)) = false :=
      List.any_eq_false.mpr fun o ho => by simpa using hcls k h1 h2 o ho
    rw [h.posted.latched k, hnone, Bool.or_false]
  · exact h.posted.busy_link hb
  · exact h.posted.busy_pending_other hb (.inr (hcls k h1 h2))
  · rw [heq] at hn h
    exact h.lastNotice (k := .channelFault) hn hb hl (sampleOccurs_fault hf)
      fun e he o ho hcls => ha e he (fault_of_mem ho hcls)
  · rw [heq] at hn h
    exact h.lastNotice (k := .channelRecovered) hn hb hl (sampleOccurs_recovered hr)
      fun e he o ho hcls => ha e he (recovered_of_mem ho hcls)
  · refine hone k d ?_ hs
    rw [h.occurs hn]
    refine occurs_alone hn hc ?_ hq
    rcases hk with ⟨rfl, hf, rfl⟩ | ⟨rfl, hr, rfl⟩
    · exact sampleOccurs_fault hf
    · exact sampleOccurs_recovered hr
  · have hposted := h.posted
    have hnil : l = [] := by
      rw [h.occurs hn]
      exact List.flatMap_eq_nil_iff.mpr fun c hc => sampleOccurs_quiet (hq c hc).1 (hq c hc).2
    rw [hnil] at hposted
    exact ⟨hposted.notices, hposted.link⟩

theorem SamplesTaken.congr {s t u : State} {raw : Octet (BitVec 12)} (h : SamplesTaken s t raw)
    (hr : u.scanner.records = t.scanner.records) (hn : u.notices = t.notices) (hl : u.link = t.link) :
    SamplesTaken s u raw := by
  obtain ⟨h1, h2, h3, h4, h5, h6, h7, h8, h9, h10⟩ := h
  rw [← hr, ← hn, ← hl] at *
  exact ⟨h1, h2, h3, h4, h5, h6, h7, h8, h9, h10⟩

/-- The buffered samples processed: the records and the line as the pass leaves them, the buffer empty (R25). -/
theorem processBuffer_taken (s : State) (raw : Octet (BitVec 12)) : ∃ v n k,
    processBuffer (fillBuffer s raw) =
      { s with scanner := { s.scanner with records := v, samples := [] }, notices := n, link := k } ∧
    ∀ u : State, u.scanner.records = v → u.notices = n → u.link = k → SamplesTaken s u raw := by
  have hlist : processBuffer (fillBuffer s raw) =
      (processList (fillBuffer s raw) (fun c => (raw.get c).toNat) s.setup.scan.list).setScanner
        { (processList (fillBuffer s raw) (fun c => (raw.get c).toNat) s.setup.scan.list).scanner with
          samples := [] } := by
    have hzip : s.setup.scan.list.zip (s.setup.scan.list.map raw.get) = s.setup.scan.list.map fun c => (c, raw.get c) := by
      simpa using List.zip_map' (f := id) (g := raw.get) (l := s.setup.scan.list)
    have hfold : ((fillBuffer s raw).setup.scan.list.zip (fillBuffer s raw).scanner.samples).foldl
        (fun s q => processChannel s q.1 q.2.toNat) (fillBuffer s raw) =
        processList (fillBuffer s raw) (fun c => (raw.get c).toNat) s.setup.scan.list := by
      change (s.setup.scan.list.zip (s.setup.scan.list.map raw.get)).foldl _ _ = _
      rw [hzip, List.foldl_map]
      rfl
    unfold processBuffer
    simp only [hfold]
  obtain ⟨v, l, h⟩ := processList_processed (fillBuffer s raw) (fun c => (raw.get c).toNat) s.setup.scan.list
  have htaken : SamplesTaken (fillBuffer s raw) _ raw := h.samplesTaken
  have hoff := h.offLine
  generalize processList (fillBuffer s raw) _ _ = t at hlist htaken hoff
  refine ⟨v, t.notices, t.link, ?_, fun u hr hn hl => ?_⟩
  · unfold OffLine at hoff
    rw [hlist, hoff]
    rfl
  · obtain ⟨h1, h2, h3, h4, h5, h6, h7, h8, h9, h10⟩ := htaken.congr (u := u) (hr.trans (by rw [hoff]; rfl)) hn hl
    exact ⟨h1, h2, h3, h4, h5, h6, h7, h8, h9, h10⟩

/-- Settles O24. -/
theorem channelProcessing : Obligations.ChannelProcessing := by
  unfold Obligations.ChannelProcessing
  intro raw s hs
  obtain ⟨v, n, k, hbuffer, htaken⟩ := processBuffer_taken s raw
  have hexec : exec (.singlePassEnd raw) s = .next (endPass s raw) := by
    change execSinglePassEnd raw s = _
    unfold execSinglePassEnd
    rw [if_pos hs]
  have hpass : endPass s raw = { s with
      scanner := { s.scanner with state := .stopped, records := v, inFlight := none, samples := [] },
      notices := n, link := k } := by
    unfold endPass
    rw [hbuffer]
    rfl
  rw [hpass] at hexec
  exact ⟨_, hexec, rfl, htaken _ rfl rfl rfl⟩

end Sys2Proof.Machine
end

section
/-! What a control step leaves: the grade, the table, the events handed and the occurrences posted, each from the
state it is taken in (R87 to R111). -/

namespace Sys2Proof.Machine

open Sys2Proof

/-! ## The question and the work of a step -/

/-- The Obstacle Table's answer to a step (R81). -/
def stepAnswer (s : State) (c : Completion) : EnvelopeAnswer := (askEnvelope s (stepQuestion s c)).2

/-- The work of a step for a side. -/
def stepWork (s : State) (c : Completion) (d : Side) : SideWork := sideWork s c (stepAnswer s c) d

theorem askEnvelope_noteSwitches (s : State) (c : Completion) (q : Question) :
    (askEnvelope (noteSwitches s c) q).2 = (askEnvelope s q).2 := by
  simp [askEnvelope, State.setup]

/-- A step from its parts, each on what the one before it leaves (R87). -/
theorem controlStep_parts (s : State) (c : Completion) : controlStep s c =
    reportCut (settleRamp (settleSides (recordSide (recordSide
      (checkBreaches (askEnvelope (noteSwitches s c) (stepQuestion s c)).1 (stepAnswer s c).inside
        (stepWork s c .left).fused.depth (stepWork s c .right).fused.depth)
      .left (stepWork s c .left)) .right (stepWork s c .right)) c ⟨stepWork s c .left, stepWork s c .right⟩) c.station
      ⟨(stepWork s c .left).approach, (stepWork s c .right).approach⟩) c
      (stepWork s c .left).fused.depth (stepWork s c .right).fused.depth := by
  unfold controlStep stepWork stepAnswer
  simp only [askEnvelope_noteSwitches]

/-! ## The reference-hold marks -/

/-- A side in AUTO without a reference at the step (R102). -/
def SideWork.lost (w : SideWork) : Bool := w.auto && w.fused.depth.isNone

/-- The grade with the reference-hold mark of a side. -/
def Grade.hold (g : Grade) (d : Side) (b : Bool) : Grade :=
  { g with sides := g.sides.set d { g.sides.get d with refHold := b } }

theorem Grade.hold_same (g : Grade) (d : Side) : g.hold d (g.sides.get d).refHold = g := by
  obtain ⟨⟨l, r⟩, _, _, _⟩ := g
  cases d <;> rfl

theorem setRefHold_grade (s : State) (d : Side) (b : Bool) : (setRefHold s d b).grade = s.grade.hold d b := rfl

theorem noteLoss_grade (s : State) (x : Nat) (d : Side) (w : SideWork) (cause : LostCause) :
    (noteLoss s x d w cause).grade = s.grade.hold d (w.lost || (s.grade.sides.get d).refHold) := by
  unfold noteLoss SideWork.lost
  cases w.auto with
  | false => simp [Grade.hold_same]
  | true =>
    cases w.fused.depth with
    | none =>
      simp only [if_true, Option.isNone_none, Bool.and_self, Bool.true_or]
      split <;> simp [setRefHold_grade]
    | some m =>
      simp only [if_true, Option.isNone_some, Bool.and_false, Bool.false_or, Grade.hold_same]
      split <;> simp

theorem clearRefHold_grade (s : State) (d : Side) : (clearRefHold s d).grade = s.grade.hold d false := by
  unfold clearRefHold
  cases h : (s.grade.sides.get d).refHold with
  | false =>
    simp only [Bool.false_eq_true, if_false]
    rw [← h, Grade.hold_same]
  | true =>
    simp only [if_true]
    split <;> simp [setRefHold_grade]

theorem noteReturn_grade (s : State) (d : Side) (w : SideWork) : (noteReturn s d w).grade =
    s.grade.hold d ((s.grade.sides.get d).refHold && w.fused.depth.isNone) := by
  unfold noteReturn
  cases w.fused.depth with
  | none => simp [Grade.hold_same]
  | some m => simp [clearRefHold_grade]

/-! ## What is handed -/

/-- The mark of one side against one entry (R105). -/
def breachHand (i : BreachItem) (d : Side) (depth : Option Int) : List Instr :=
  match depth with
  | some m =>
    if i.sides.covers d ∧ ((i.cap + i.tolerance : Nat) : Int) < m then [.breachMark i.id d m (i.cap + i.tolerance)]
    else []
  | none => []

theorem checkBreach_handed (s : State) (i : BreachItem) (d : Side) (depth : Option Int) :
    (checkBreach s i d depth).handed = s.handed ++ breachHand i d depth := by
  unfold checkBreach breachHand
  cases depth with
  | none => simp
  | some m =>
    simp only
    split <;> simp [hand]

/-- The marks of a breach check (R105). -/
def breachHands (items : List BreachItem) (left right : Option Int) : List Instr :=
  items.flatMap fun i => breachHand i .left left ++ breachHand i .right right

theorem checkBreaches_handed (s : State) (items : List BreachItem) (left right : Option Int) :
    (checkBreaches s items left right).handed = s.handed ++ breachHands items left right := by
  unfold checkBreaches breachHands
  induction items generalizing s with
  | nil => simp
  | cons i items ih =>
    rw [List.foldl_cons, ih, checkBreach_handed, checkBreach_handed, List.flatMap_cons]
    simp

/-- What a side in AUTO hands for a lost reference or for no target, with the other side's mark (R102, R104). -/
def lossHands (d : Side) (w : SideWork) (other : Bool) : List Instr :=
  if w.auto then
    if w.fused.depth.isNone then .referenceLostRequest d :: if other then [] else [.reasonAdd .reference 0]
    else if w.target.isNone then [.noTargetRequest d] else []
  else []

theorem noteLoss_handed (s : State) (x : Nat) (d : Side) (w : SideWork) (cause : LostCause) :
    (noteLoss s x d w cause).handed = s.handed ++ lossHands d w (s.grade.sides.get d.other).refHold := by
  unfold noteLoss lossHands
  cases w.auto with
  | false => simp
  | true =>
    cases w.fused.depth with
    | none =>
      simp only [if_true, Option.isNone_none]
      split <;> simp [hand]
    | some m =>
      simp only [if_true, Option.isNone_some, Bool.false_eq_true, if_false]
      split <;> simp [hand]

/-- What a returned reference hands, with the marks of the side and of the other (R103). -/
def returnHands (w : SideWork) (self other : Bool) : List Instr :=
  if w.fused.depth.isSome ∧ self = true ∧ other = false then [.reasonWithdraw .reference] else []

theorem clearRefHold_handed (s : State) (d : Side) : (clearRefHold s d).handed = s.handed ++
    if (s.grade.sides.get d).refHold = true ∧ (s.grade.sides.get d.other).refHold = false then
      [.reasonWithdraw .reference] else [] := by
  unfold clearRefHold
  cases (s.grade.sides.get d).refHold with
  | false => simp
  | true => cases (s.grade.sides.get d.other).refHold <;> simp [hand]

theorem noteReturn_handed (s : State) (d : Side) (w : SideWork) : (noteReturn s d w).handed = s.handed ++
    returnHands w (s.grade.sides.get d).refHold (s.grade.sides.get d.other).refHold := by
  unfold noteReturn returnHands
  cases w.fused.depth with
  | none => simp
  | some m => simp [clearRefHold_handed]

/-- The command handed for a side (R101). -/
def commandHands (d : Side) (w : SideWork) : List Instr := (w.command.map (.legCommand d)).toList

theorem handCommand_handed (s : State) (d : Side) (w : SideWork) :
    (handCommand s d w).handed = s.handed ++ commandHands d w := by
  unfold handCommand commandHands
  cases w.command <;> simp [hand]

/-- What the RAMP reason hands: the step's cap, or its withdrawal (R106, R107). -/
def rampHands (cap held : Option Nat) : List Instr :=
  match cap with
  | some n => [.reasonAdd .ramp n]
  | none => if held.isSome then [.reasonWithdraw .ramp] else []

theorem settleRamp_handed (s : State) (x : Nat) (q : Sides (Option Nat)) :
    (settleRamp s x q).handed = s.handed ++ rampHands (stepCap s.setup q) s.grade.ramp := by
  unfold settleRamp rampHands
  cases stepCap s.setup q with
  | some n =>
    simp only
    split <;> simp [hand]
  | none =>
    simp only
    split <;> simp [hand]

theorem settleRamp_grade (s : State) (x : Nat) (q : Sides (Option Nat)) :
    (settleRamp s x q).grade = { s.grade with ramp := stepCap s.setup q } := by
  unfold settleRamp
  cases stepCap s.setup q with
  | some n =>
    simp only
    split <;> simp
  | none =>
    simp only
    split
    · simp
    · next h =>
      rw [Bool.not_eq_true, Option.isSome_eq_false_iff, Option.isNone_iff_eq_none] at h
      rw [← h]

/-- The report of a step's cut (R111). -/
def stepReport (s : State) (c : Completion) : CutReport :=
  buildReport s.setup s.grade.base s.grade.remainder c
    (volumeDepth (stepWork s c .left).fused.depth (stepWork s c .right).fused.depth)

/-! ## The step whole -/

/-- What a step leaves of a side. -/
def stepSide (s : State) (c : Completion) (d : Side) : GradeSide :=
  { (s.grade.sides.get d).recorded (stepWork s c d) with
    refHold := ((stepWork s c d).lost || (s.grade.sides.get d).refHold) && (stepWork s c d).fused.depth.isNone }

/-- The RAMP cap of a step (R106). -/
def stepRamp (s : State) (c : Completion) : Option Nat :=
  stepCap s.setup ⟨(stepWork s c .left).approach, (stepWork s c .right).approach⟩

theorem recordSide_grade (s : State) (d : Side) (w : SideWork) : (recordSide s d w).grade =
    { s.grade with sides := s.grade.sides.set d ((s.grade.sides.get d).recorded w) } := rfl

theorem recorded_refHold (g : GradeSide) (w : SideWork) : (g.recorded w).refHold = g.refHold := (rfl)

theorem settleSides_grade (s : State) (c : Completion) (w : Sides SideWork) :
    (settleSides s c w).grade = { s.grade with sides :=
      ⟨{ s.grade.sides.left with
          refHold := (w.left.lost || s.grade.sides.left.refHold) && w.left.fused.depth.isNone },
        { s.grade.sides.right with
          refHold := (w.right.lost || s.grade.sides.right.refHold) && w.right.fused.depth.isNone }⟩ } := by
  unfold settleSides
  simp only [handCommand_frame, noteReturn_grade, noteLoss_grade]
  cases s.setup.geometry.refSide <;> simp [Grade.hold, Side.other, Sides.get, Sides.set]

theorem reportCut_grade (s : State) (c : Completion) (l r : Option Int) : (reportCut s c l r).grade =
    { s.grade with
      base := if c.stationSet then none else some c.station,
      remainder := looseSum
        (buildReport s.setup s.grade.base s.grade.remainder c (volumeDepth l r)).bank s.setup.control.swell
          s.grade.remainder % 100 } := rfl

theorem reportCut_handed (s : State) (c : Completion) (l r : Option Int) : (reportCut s c l r).handed =
    s.handed ++ [.cutReport (buildReport s.setup s.grade.base s.grade.remainder c (volumeDepth l r))] := rfl

/-- The grade a step leaves (Tables 5.1, 5.2). -/
theorem controlStep_grade (s : State) (c : Completion) : (controlStep s c).grade =
    { sides := ⟨stepSide s c .left, stepSide s c .right⟩,
      base := if c.stationSet then none else some c.station,
      remainder := looseSum (stepReport s c).bank s.setup.control.swell s.grade.remainder % 100,
      ramp := stepRamp s c } := by
  rw [controlStep_parts]
  simp only [reportCut_grade, settleRamp_grade, settleSides_grade, recordSide_grade, State.setup, settleRamp_frame,
    settleSides_frame, recordSide_frame, checkBreaches_frame, askEnvelope_frame, noteSwitches_frame]
  rfl

theorem controlStep_side (s : State) (c : Completion) (d : Side) :
    (controlStep s c).grade.sides.get d = stepSide s c d := by
  rw [controlStep_grade]
  cases d <;> rfl

/-- What the sides hand at a step, the reference side before the far side (R102 to R104). -/
def sideHands (s : State) (c : Completion) (r f : Side) : List Instr :=
  lossHands r (stepWork s c r) (s.grade.sides.get f).refHold ++
    lossHands f (stepWork s c f) ((stepWork s c r).lost || (s.grade.sides.get r).refHold) ++
    returnHands (stepWork s c r) ((stepWork s c r).lost || (s.grade.sides.get r).refHold)
      ((stepWork s c f).lost || (s.grade.sides.get f).refHold) ++
    returnHands (stepWork s c f) ((stepWork s c f).lost || (s.grade.sides.get f).refHold)
      (((stepWork s c r).lost || (s.grade.sides.get r).refHold) && (stepWork s c r).fused.depth.isNone)

theorem settleSides_handed (s t : State) (c : Completion) (hside : t.setup.geometry = s.setup.geometry)
    (hhold : ∀ d, (t.grade.sides.get d).refHold = (s.grade.sides.get d).refHold) :
    (settleSides t c ⟨stepWork s c .left, stepWork s c .right⟩).handed = t.handed ++
      sideHands s c s.setup.geometry.refSide s.setup.geometry.refSide.other ++
      commandHands .left (stepWork s c .left) ++ commandHands .right (stepWork s c .right) := by
  unfold settleSides sideHands
  simp only [handCommand_handed, noteReturn_handed, noteReturn_grade, noteLoss_handed, noteLoss_grade, hside]
  have hl := hhold .left
  have hr := hhold .right
  cases s.setup.geometry.refSide <;> simp_all [Grade.hold, Side.other, Sides.get, Sides.set]

/-- The events a step hands (R87). -/
theorem controlStep_handed (s : State) (c : Completion) : (controlStep s c).handed = s.handed ++
    breachHands (stepAnswer s c).inside (stepWork s c .left).fused.depth (stepWork s c .right).fused.depth ++
    sideHands s c s.setup.geometry.refSide s.setup.geometry.refSide.other ++
    commandHands .left (stepWork s c .left) ++ commandHands .right (stepWork s c .right) ++
    rampHands (stepRamp s c) s.grade.ramp ++ [.cutReport (stepReport s c)] := by
  rw [controlStep_parts]
  simp only [reportCut_handed, settleRamp_handed, settleRamp_grade, settleSides_grade]
  rw [settleSides_handed s _ c (by simp [State.setup]) (by
    intro d
    cases d <;> simp [recordSide_grade, Sides.get, Sides.set, recorded_refHold])]
  simp only [recordSide_grade, recordSide_frame, checkBreaches_handed, State.setup, settleRamp_frame, settleSides_frame,
    checkBreaches_frame, askEnvelope_frame, noteSwitches_frame, List.append_assoc]
  rfl

/-! ## What a step posts -/

/-- What a side that uses another channel than its last posts (R91). -/
def switchPosts (x : Nat) (d : Side) (last used : Option Channel) : List Occurrence :=
  match last, used with
  | some a, some b => if a = b then [] else [⟨.referenceSwitched, x, .referenceSwitched d a b⟩]
  | _, _ => []

theorem noteSwitch_switchPosts (s : State) (x : Nat) (d : Side) (used : Option Channel) :
    Posted s (noteSwitch s x d used) (switchPosts x d (s.grade.sides.get d).lastUsed used) := by
  unfold noteSwitch switchPosts
  cases (s.grade.sides.get d).lastUsed with
  | none => exact Posted.refl s
  | some a =>
    cases used with
    | none => exact Posted.refl s
    | some b =>
      simp only
      split
      · exact Posted.refl s
      · exact Posted.postAt s _ _ _

/-- What the step posts as RAMP is added (R107). -/
def rampOccurs (x : Nat) (cap held : Option Nat) (q : Sides (Option Nat)) : List Occurrence :=
  match cap with
  | some n => if held.isSome then [] else [⟨.rampLimited, x, .rampLimited q n⟩]
  | none => []

theorem rampPosts_eq (s : State) (x : Nat) (q : Sides (Option Nat)) :
    rampPosts s x q = rampOccurs x (stepCap s.setup q) s.grade.ramp q := by
  unfold rampPosts rampOccurs
  cases stepCap s.setup q <;> rfl

/-- The occurrences of a step, in their order. -/
def stepPosts (s : State) (c : Completion) (r f : Side) : List Occurrence :=
  switchPosts c.station r (s.grade.sides.get r).lastUsed (fuseReference s.setup.geometry c).used ++
    switchPosts c.station f (s.grade.sides.get f).lastUsed (fuseFar s.setup.geometry c).used ++
    unsampledPosts s c.station s.obstacles ++
    (lossPosts c.station r (stepWork s c r) (lostCause s.setup.geometry c r) ++
      lossPosts c.station f (stepWork s c f) (lostCause s.setup.geometry c f)) ++
    rampOccurs c.station (stepRamp s c) s.grade.ramp
      ⟨(stepWork s c .left).approach, (stepWork s c .right).approach⟩

theorem controlStep_posts (s : State) (c : Completion) : Posted s (controlStep s c)
    (stepPosts s c s.setup.geometry.refSide s.setup.geometry.refSide.other) := by
  rw [controlStep_parts]
  have hswitch : Posted s (noteSwitches s c) _ :=
    (noteSwitch_switchPosts s c.station s.setup.geometry.refSide (fuseReference s.setup.geometry c).used).trans
      (noteSwitch_switchPosts _ c.station s.setup.geometry.refSide.other (fuseFar s.setup.geometry c).used)
  rw [(noteSwitch_frame _ _ _ _).2.2.2.2.1] at hswitch
  have hask := hswitch.trans (askEnvelope_posted (noteSwitches s c) (stepQuestion s c))
  have hun : unsampledPosts (noteSwitches s c) (stepQuestion s c).x (noteSwitches s c).obstacles =
      unsampledPosts s c.station s.obstacles := by
    unfold unsampledPosts
    simp only [noteSwitches_frame]
    rfl
  rw [hun] at hask
  have hbreach := hask.trans (checkBreaches_quiet _ (stepAnswer s c).inside (stepWork s c .left).fused.depth
    (stepWork s c .right).fused.depth)
  generalize hb : checkBreaches (askEnvelope (noteSwitches s c) (stepQuestion s c)).1 _ _ _ = b at hbreach ⊢
  have hbsetup : b.setup = s.setup := setup_of_store (by rw [← hb]; simp)
  have hbgrade : b.grade = s.grade := by rw [← hb]; simp
  have hrecord := (hbreach.trans (recordSide_quiet b .left (stepWork s c .left))).trans
    (recordSide_quiet _ .right (stepWork s c .right))
  have hsides := hrecord.trans (settleSides_posted _ c ⟨stepWork s c .left, stepWork s c .right⟩)
  have hramp := (hsides.trans (settleRamp_posted _ c.station
    ⟨(stepWork s c .left).approach, (stepWork s c .right).approach⟩)).trans
    (reportCut_quiet _ c (stepWork s c .left).fused.depth (stepWork s c .right).fused.depth)
  simp only [List.append_nil] at hramp
  have hget (d : Side) : (Sides.mk (stepWork s c .left) (stepWork s c .right)).get d = stepWork s c d := by
    cases d <;> rfl
  have hsetup : (recordSide (recordSide b .left (stepWork s c .left)) .right (stepWork s c .right)).setup = s.setup :=
    hbsetup
  have hposts : rampPosts (settleSides (recordSide (recordSide b .left (stepWork s c .left)) .right
      (stepWork s c .right)) c ⟨stepWork s c .left, stepWork s c .right⟩) c.station
      ⟨(stepWork s c .left).approach, (stepWork s c .right).approach⟩ =
      rampOccurs c.station (stepRamp s c) s.grade.ramp
        ⟨(stepWork s c .left).approach, (stepWork s c .right).approach⟩ := by
    rw [rampPosts_eq, settleSides_grade, setup_of_store (settleSides_frame _ _ _).2.2.2.2.2.2.2.2.2.1, hsetup]
    simp only [recordSide_grade, hbgrade, stepRamp]
  rw [hsetup, hget, hget, hposts] at hramp
  exact hramp

end Sys2Proof.Machine
end

section
/-! The end of a continuous scan (R25, R87). -/

namespace Sys2Proof.Machine

open Sys2Proof

theorem leaveScanning_eq (s : State) {p : Prop} [Decidable p] (hp : s.scanner.parkDue = true ∧ anyAuto s = false ↔ p) :
    leaveScanning s = { s with
      scanner :=
        if p then { s.scanner with state := .parked, settleTimer := none, parkTimer := none, parkDue := false }
        else { s.scanner with state := .armed } } := by
  unfold leaveScanning
  by_cases h : p
  · rw [if_pos h, if_pos (hp.mpr h)]
    rfl
  · rw [if_neg h, if_neg (mt hp.mp h)]
    rfl

/-- The state a scan's samples and its completed count leave, in which the control step is taken (R25). -/
def State.scanned (s : State) (v : Octet ChannelRecord) (n : Notices) (k : Link) : State :=
  { s with
    scanner := { s.scanner with
      records := v, samples := [], inFlight := none, completed := (s.scanner.completed + 1) % 65536 },
    notices := n, link := k }

theorem endScan_eq {s : State} {f : ScanInFlight} {raw : Octet (BitVec 12)} {v : Octet ChannelRecord} {n : Notices}
    {k : Link} (h : processBuffer (fillBuffer s raw) =
      { s with scanner := { s.scanner with records := v, samples := [] }, notices := n, link := k }) :
    endScan s f raw = leaveScanning (controlStep (s.scanned v n k) (completionOf (s.scanned v n k) f)) := by
  unfold endScan
  rw [h]
  rfl

/-- Settles O23: the control step is taken on the completion built from the records just written. -/
theorem scanEndCompletes : Obligations.ScanEndCompletes := by
  unfold Obligations.ScanEndCompletes
  intro raw s f hscanning hflight
  obtain ⟨v, n, k, hbuffer, htaken⟩ := processBuffer_taken s raw
  have hexec : exec (.scanEnd raw) s = .next (endScan s f raw) := by
    change execScanEnd raw s = _
    unfold execScanEnd
    simp only [hscanning, hflight]
  have hsame : (s.scanned v n k).travel = s.travel ∧ (s.scanned v n k).program = s.program ∧
      (s.scanned v n k).legs = s.legs ∧ (s.scanned v n k).conveyor = s.conveyor ∧
      (s.scanned v n k).advance = s.advance ∧ (s.scanned v n k).inputs = s.inputs ∧
      (s.scanned v n k).supply = s.supply ∧ (s.scanned v n k).store = s.store ∧
      (s.scanned v n k).pending = s.pending ∧ (s.scanned v n k).freeCount = s.freeCount :=
    ⟨rfl, rfl, rfl, rfl, rfl, rfl, rfl, rfl, rfl, rfl⟩
  have hown : s.scanned v n k = { s with
      scanner := { s.scanner with
        records := (s.scanned v n k).scanner.records, samples := [], inFlight := none,
        completed := (s.scanner.completed + 1) % 65536 },
      notices := (s.scanned v n k).notices, link := (s.scanned v n k).link } := rfl
  have hsamples : SamplesTaken s (s.scanned v n k) raw := htaken _ rfl rfl rfl
  have hcompletion : completionOf (s.scanned v n k) f =
      { sequence := (s.scanner.completed + 1) % 65536, kind := f.kind, station := f.station, speed := f.speed,
        stationSet := f.stationSet,
        results := s.setup.scan.list.map fun ch =>
          { channel := ch, kind := (s.setup.channels.get ch).kind,
            record := (s.scanned v n k).scanner.records.get ch } } := rfl
  have hcompleted : (s.scanned v n k).scanner.completed = (completionOf (s.scanned v n k) f).sequence := rfl
  have hdue : (s.scanned v n k).scanner.parkDue = s.scanner.parkDue := rfl
  rw [endScan_eq hbuffer] at hexec
  generalize s.scanned v n k = u at *
  have hstation : (completionOf u f).station = f.station := by rw [hcompletion]
  have hset : (completionOf u f).stationSet = f.stationSet := by rw [hcompletion]
  generalize hc : completionOf u f = c at *
  have hgrade := controlStep_grade u c
  have hhanded := controlStep_handed u c
  obtain ⟨htravel, hscanner, hprogram, hlegs, hconveyor, hadvance, hinputs, hsupply, hstore, hfree, hpending⟩ :=
    controlStep_frame u c
  obtain ⟨h1, h2, h3, h4, h5, h6, h7, h8, h9, h10⟩ := hsame
  have hpark : (controlStep u c).scanner.parkDue = true ∧ anyAuto (controlStep u c) = false ↔
      s.scanner.parkDue = true ∧ NoAuto s := by
    rw [anyAuto_false_iff, hscanner, hdue, NoAuto, NoAuto, hlegs, h3]
  rw [leaveScanning_eq _ hpark, hscanner] at hexec
  have hlast : (if s.scanner.parkDue = true ∧ NoAuto s then
      ({ u.scanner with state := .parked, settleTimer := none, parkTimer := none, parkDue := false } : Scanner)
      else { u.scanner with state := .armed }).completed = c.sequence := by
    rw [← hcompleted]
    split <;> rfl
  refine ⟨_, u, c, hexec, hown, hsamples, hcompletion, rfl, ?_, ⟨stepReport u c, ?_, hstation, hlast.symm⟩,
    htravel.trans h1, hprogram.trans h2, hlegs.trans h3, hconveyor.trans h4, hadvance.trans h5, hinputs.trans h6,
    hsupply.trans h7, hstore.trans h8, hpending.trans h9, hfree.trans h10⟩
  · change (controlStep u c).grade.base = _
    rw [hgrade, hstation, hset]
  · change _ ∈ (controlStep u c).handed
    rw [hhanded]
    exact List.mem_append_right _ (List.mem_singleton_self _)

end Sys2Proof.Machine
end

section
/-! The events a control step hands, kind by kind, and its cut report (R105 to R111). -/

namespace Sys2Proof.Machine

open Sys2Proof

/-! ## Which events each part hands -/

theorem mem_breachHand {i : BreachItem} {d : Side} {depth : Option Int} {x : Instr} : x ∈ breachHand i d depth ↔
    ∃ m, depth = some m ∧ i.sides.covers d = true ∧ ((i.cap + i.tolerance : Nat) : Int) < m ∧
      x = .breachMark i.id d m (i.cap + i.tolerance) := by
  unfold breachHand
  cases depth with
  | none => simp
  | some m =>
    simp only
    split
    · next h =>
      rw [List.mem_singleton]
      exact ⟨fun hx => ⟨m, rfl, h.1, h.2, hx⟩, fun ⟨n, hn, _, _, hx⟩ => Option.some_inj.mp hn ▸ hx⟩
    · next h =>
      simp only [List.not_mem_nil, false_iff]
      rintro ⟨n, hn, hcovers, hlt, -⟩
      cases hn
      exact h ⟨hcovers, hlt⟩

theorem mem_breachHands {items : List BreachItem} {l r : Option Int} {x : Instr} : x ∈ breachHands items l r ↔
    ∃ i ∈ items, ∃ d m, (Sides.mk l r).get d = some m ∧ i.sides.covers d = true ∧
      ((i.cap + i.tolerance : Nat) : Int) < m ∧ x = .breachMark i.id d m (i.cap + i.tolerance) := by
  unfold breachHands
  simp only [List.mem_flatMap, List.mem_append, mem_breachHand]
  refine exists_congr fun i => and_congr_right fun _ => ⟨?_, ?_⟩
  · rintro (h | h)
    · exact ⟨.left, h⟩
    · exact ⟨.right, h⟩
  · rintro ⟨d, h⟩
    cases d with
    | left => exact .inl h
    | right => exact .inr h

theorem mem_lossHands {d : Side} {w : SideWork} {other : Bool} {x : Instr} : x ∈ lossHands d w other ↔
    w.lost = true ∧ (x = .referenceLostRequest d ∨ other = false ∧ x = .reasonAdd .reference 0) ∨
      w.auto = true ∧ w.fused.depth.isSome = true ∧ w.target = none ∧ x = .noTargetRequest d := by
  unfold lossHands SideWork.lost
  cases w.auto with
  | false => simp
  | true =>
    cases w.fused.depth with
    | none => cases other <;> simp
    | some m => cases w.target <;> simp

theorem mem_returnHands {w : SideWork} {self other : Bool} {x : Instr} : x ∈ returnHands w self other ↔
    w.fused.depth.isSome = true ∧ self = true ∧ other = false ∧ x = .reasonWithdraw .reference := by
  unfold returnHands
  split
  · next h => simp [h]
  · next h =>
    simp only [List.not_mem_nil, false_iff]
    exact fun hx => h ⟨hx.1, hx.2.1, hx.2.2.1⟩

theorem mem_commandHands {d : Side} {w : SideWork} {x : Instr} :
    x ∈ commandHands d w ↔ ∃ u, w.command = some u ∧ x = .legCommand d u := by
  unfold commandHands
  cases w.command <;> simp

theorem mem_rampHands {cap held : Option Nat} {x : Instr} : x ∈ rampHands cap held ↔
    (∃ n, cap = some n ∧ x = .reasonAdd .ramp n) ∨ cap = none ∧ held.isSome = true ∧ x = .reasonWithdraw .ramp := by
  unfold rampHands
  cases cap with
  | some n => simp
  | none => cases held <;> simp

/-- The events after a step: those before it, and those its parts hand. -/
theorem mem_controlStep_handed {s : State} {c : Completion} {x : Instr} : x ∈ (controlStep s c).handed ↔
    x ∈ s.handed ∨
    x ∈ breachHands (stepAnswer s c).inside (stepWork s c .left).fused.depth (stepWork s c .right).fused.depth ∨
    x ∈ sideHands s c s.setup.geometry.refSide s.setup.geometry.refSide.other ∨
    (∃ d, x ∈ commandHands d (stepWork s c d)) ∨ x ∈ rampHands (stepRamp s c) s.grade.ramp ∨
    x = .cutReport (stepReport s c) := by
  have hsides : (∃ d, x ∈ commandHands d (stepWork s c d)) ↔
      x ∈ commandHands .left (stepWork s c .left) ∨ x ∈ commandHands .right (stepWork s c .right) :=
    ⟨fun ⟨d, h⟩ => by cases d <;> simp [h], fun h => h.elim (⟨_, ·⟩) (⟨_, ·⟩)⟩
  rw [controlStep_handed, hsides]
  simp only [List.mem_append, List.mem_singleton, or_assoc]

theorem cutReport_handed {s : State} {c : Completion} {r : CutReport} :
    .cutReport r ∈ (controlStep s c).handed ↔ .cutReport r ∈ s.handed ∨ r = stepReport s c := by
  simp [mem_controlStep_handed, sideHands, mem_breachHands, mem_lossHands, mem_returnHands, mem_commandHands,
    mem_rampHands]

/-! ## The sides of a step -/

theorem stepSide_reference (s : State) (c : Completion) (d : Side) :
    (stepSide s c d).reference = (stepWork s c d).fused.depth.isSome := rfl

/-- A side with a reference at the step holds the fused depth (R93). -/
theorem depth_of_reference {s : State} {c : Completion} {d : Side} (h : (stepSide s c d).reference = true) :
    (stepWork s c d).fused.depth = some (stepSide s c d).depth := by
  obtain ⟨m, hm⟩ := Option.isSome_iff_exists.mp h
  have hdepth : (stepSide s c d).depth = (stepWork s c d).fused.depth.getD (s.grade.sides.get d).depth := rfl
  rw [hdepth, hm]
  rfl

theorem depth_of_no_reference {s : State} {c : Completion} {d : Side} (h : (stepSide s c d).reference = false) :
    (stepWork s c d).fused.depth = none := Option.isNone_iff_eq_none.mp (Option.isSome_eq_false_iff.mp h)

/-! ## The cut report -/

theorem roundDivNat_two (n : Nat) : roundDivNat n 2 = (n + 1) / 2 := by
  unfold roundDivNat
  omega

theorem roundDivNat_hundred (n : Nat) : roundDivNat n 100 = (n + 50) / 100 := by
  unfold roundDivNat
  omega

/-- Settles O27. -/
theorem cutReportVolumes : Obligations.CutReportVolumes := by
  unfold Obligations.CutReportVolumes
  rintro s t c p swell a b rfl rfl rfl rfl rfl
  have hgrade := controlStep_grade s c
  have hleft : (controlStep s c).grade.sides.left = stepSide s c .left := by rw [hgrade]
  have hright : (controlStep s c).grade.sides.right = stepSide s c .right := by rw [hgrade]
  have hdepth : (stepReport s c).kind = (volumeDepth (stepWork s c .left).fused.depth
      (stepWork s c .right).fused.depth).1 ∧ (stepReport s c).depth = (volumeDepth (stepWork s c .left).fused.depth
      (stepWork s c .right).fused.depth).2 := ⟨rfl, rfl⟩
  have hloose : (stepReport s c).loose =
      ((stepReport s c).bank * s.setup.control.swell + s.grade.remainder) / 100 := rfl
  have hremainder : (controlStep s c).grade.remainder =
      ((stepReport s c).bank * s.setup.control.swell + s.grade.remainder) % 100 := by rw [hgrade]; rfl
  rw [hleft, hright]
  refine ⟨stepReport s c, cutReport_handed.mpr (.inr rfl), fun q hq => (cutReport_handed.mp hq).symm, rfl, rfl, ?_,
    fun ha hb => ?_, fun ha hb => ?_, fun ha hb => ?_, fun ha hb => ?_, rfl, roundDivNat_hundred _, ?_, ?_, ?_⟩
  · change stepTravel s.grade.base c = _
    unfold stepTravel
    cases s.grade.base <;> rfl
  · rw [hdepth.1, hdepth.2, depth_of_reference ha, depth_of_reference hb]
    exact ⟨rfl, roundDivNat_two _⟩
  · rw [hdepth.1, hdepth.2, depth_of_reference ha, depth_of_no_reference hb]
    exact ⟨rfl, rfl⟩
  · rw [hdepth.1, hdepth.2, depth_of_no_reference ha, depth_of_reference hb]
    exact ⟨rfl, rfl⟩
  · rw [hdepth.1, hdepth.2, depth_of_no_reference ha, depth_of_no_reference hb]
    exact ⟨rfl, rfl⟩
  · rw [hloose, hremainder]
    exact (Nat.div_add_mod _ _).symm
  · rw [hremainder]
    exact Nat.mod_lt _ (by decide)
  · rw [hgrade]

end Sys2Proof.Machine
end

section
/-! The Obstacle Table's answer to a step, in the words of its rules, and what a step marks and judges
(R77 to R83, R105). -/

namespace Sys2Proof.Machine

open Sys2Proof

/-! ## The entries at the question -/

theorem Obstacle.contains_eq (o : Obstacle) (x : Nat) :
    o.contains x = decide (o.start ≤ x ∧ x < o.start + o.length) := rfl

/-- The passages of an entry settled, in the words of R80. -/
theorem settle_eq (o : Obstacle) (x : Nat) : o.settle x = o.questioned x := by
  unfold Obstacle.settle Obstacle.markSampled Obstacle.judge Obstacle.markWatched Obstacle.judgedUnsampled
    Obstacle.questioned
  rw [o.contains_eq]
  obtain ⟨id, start, length, cap, q, mask, tolerance, hold, state, crossed, breached, unsampled, passage, watched,
    sampled⟩ := o
  by_cases hx : start ≤ x ∧ x < start + length
  · cases passage <;> cases state <;> simp [hx]
  · cases passage <;> cases state <;> simp [hx]

theorem limitAt_eq (o : Obstacle) (x : Nat) (h : x < o.start ∨ o.start + o.length ≤ x) : o.limitAt x =
    o.cap + (if x < o.start then o.start - x else x - (o.start + o.length - 1)) * o.q := by
  unfold Obstacle.limitAt Obstacle.distance Obstacle.lastStation Obstacle.endStation
  by_cases hx : x < o.start
  · rw [if_pos hx, if_pos hx]
  · rw [if_neg hx, if_neg hx, if_pos (h.resolve_left hx)]

theorem aheadOf_faces (o : Obstacle) (v : Int) (x : Nat) : o.aheadOf x (stepSense v) = true ↔ o.faces v x := by
  unfold Obstacle.faces stepSense
  by_cases hv : v < 0
  · rw [if_pos hv, if_pos hv]
    exact decide_eq_true_iff
  · rw [if_neg hv, if_neg hv]
    exact decide_eq_true_iff

theorem faces_outside {o : Obstacle} {v : Int} {x : Nat} (h : o.faces v x) : x < o.start ∨ o.start + o.length ≤ x := by
  unfold Obstacle.faces at h
  split at h
  · exact .inr h
  · exact .inl h

theorem obstacleEvaluated_iff (o : Obstacle) :
    o.evaluated = true ↔ o.state = .pending ∨ o.state = .approach ∨ o.state = .depart := by
  simp [Obstacle.evaluated, or_assoc]

/-- The limit of an entry outside its zone lies below the target (R79). -/
def Obstacle.limitBelow (o : Obstacle) (x : Nat) (target : Option Int) : Bool :=
  match target with
  | some t => decide ((o.limitAt x : Int) < t)
  | none => false

theorem inApproach_eq (o : Obstacle) (d : Side) (q : Question) : o.inApproach d q =
    (o.covers d && o.aheadOf q.x (stepSense q.v) && o.limitBelow q.x (q.targets.get d)) := by
  unfold Obstacle.inApproach Obstacle.limitBelow
  cases q.targets.get d <;> rfl

theorem limitBelow_iff (o : Obstacle) (x : Nat) (target : Option Int) :
    o.limitBelow x target = true ↔ ∃ n, target = some n ∧ (o.limitAt x : Int) < n := by
  unfold Obstacle.limitBelow
  cases target with
  | none => simp
  | some t => simp

/-- An entry that the question finds in approach for a side (R79). -/
theorem approaches_iff (o : Obstacle) (d : Side) (q : Question) :
    (o.evaluated && o.inApproach d q) = true ↔ o.approaches d q.v q.x (q.targets.get d) := by
  rw [inApproach_eq, Bool.and_eq_true, Bool.and_eq_true, Bool.and_eq_true, obstacleEvaluated_iff, aheadOf_faces,
    limitBelow_iff]
  unfold Obstacle.approaches
  rw [and_assoc]
  refine and_congr_right fun _ => and_congr_right fun _ => and_congr_right fun hfaces => ?_
  rw [limitAt_eq o q.x (faces_outside hfaces)]

/-- The state an entry takes at the question (R79). -/
theorem evaluate_state (o : Obstacle) (q : Question) : (o.evaluate q).state =
    if o.evaluated && o.inApproach .left q || o.evaluated && o.inApproach .right q then .approach
    else if o.state = .approach then (if o.crossed then .depart else .pending) else o.state := by
  unfold Obstacle.evaluate
  cases hev : o.evaluated with
  | false =>
    have hstate : o.state ≠ .approach := fun h => by
      rw [(obstacleEvaluated_iff o).mpr (.inr (.inl h))] at hev
      exact nomatch hev
    simp [hstate]
  | true =>
    simp only [if_true, Bool.true_and]
    split
    · rfl
    · split <;> rfl

theorem evaluate_eq (o : Obstacle) (q : Question) : o.evaluate q = { o with state := (o.evaluate q).state } := by
  unfold Obstacle.evaluate
  (repeat' split) <;> rfl

/-! ## The envelope -/

/-- The search for the least of a start and the limits of the entries that cover a side (R78). -/
theorem envelope_least (d : Side) (w : Nat × Nat) (os : List Obstacle) (m : Nat) :
    let E := os.foldl (fun m o => if o.covers d then min m (o.limitOver w) else m) m
    E ≤ m ∧ (∀ o ∈ os, o.covers d = true → E ≤ o.limitOver w) ∧
      (E = m ∨ ∃ o ∈ os, o.covers d = true ∧ E = o.limitOver w) := by
  induction os generalizing m with
  | nil => exact ⟨le_refl m, nofun, .inl rfl⟩
  | cons o os ih =>
    obtain ⟨hle, hall, hattained⟩ := ih (if o.covers d then min m (o.limitOver w) else m)
    simp only [List.foldl_cons]
    by_cases hc : o.covers d = true
    · simp only [hc, if_true] at hle hall hattained ⊢
      refine ⟨hle.trans (min_le_left _ _), fun p hp hpc => ?_, ?_⟩
      · rcases List.mem_cons.mp hp with rfl | hp
        · exact hle.trans (min_le_right _ _)
        · exact hall p hp hpc
      · rcases hattained with heq | ⟨p, hp, hpc, heq⟩
        · rcases min_choice m (o.limitOver w) with hmin | hmin
          · exact .inl (heq.trans hmin)
          · exact .inr ⟨o, List.mem_cons_self, hc, heq.trans hmin⟩
        · exact .inr ⟨p, List.mem_cons_of_mem _ hp, hpc, heq⟩
    · simp only [hc, if_false, Bool.false_eq_true] at hle hall hattained ⊢
      refine ⟨hle, fun p hp hpc => ?_, hattained.imp_right fun ⟨p, hp, hpc, heq⟩ => ⟨p, List.mem_cons_of_mem _ hp, hpc, heq⟩⟩
      rcases List.mem_cons.mp hp with rfl | hp
      · exact absurd hpc hc
      · exact hall p hp hpc

theorem limitOver_eq (o : Obstacle) (lo hi : Nat) : o.limitOver (lo, hi) =
    if lo < o.start + o.length ∧ o.start ≤ hi then o.cap
    else if hi < o.start then o.cap + (o.start - hi) * o.q
    else o.cap + (lo - (o.start + o.length - 1)) * o.q := by
  have hend : o.endStation = o.start + o.length := rfl
  unfold Obstacle.limitOver
  simp only [hend]
  by_cases hin : lo < o.start + o.length ∧ o.start ≤ hi
  · rw [if_pos hin, if_pos hin]
  · rw [if_neg hin, if_neg hin]
    by_cases hbelow : hi < o.start
    · rw [if_pos hbelow, if_pos hbelow, limitAt_eq o hi (.inl hbelow), if_pos hbelow]
    · rw [if_neg hbelow, if_neg hbelow, limitAt_eq o lo (.inr (by omega)), if_neg (by omega)]

theorem window_eq (q : Question) (ms : Nat) : window q ms =
    (if q.v < 0 then q.x - q.v.natAbs * ms / 1000 else q.x,
      if q.v < 0 then q.x else min 16777215 (q.x + q.v.natAbs * ms / 1000)) := by
  unfold window stepSense
  by_cases hv : q.v < 0
  · simp only [if_pos hv]
    rfl
  · simp only [if_neg hv]
    rfl

theorem envelope_isEnvelope (os : List Obstacle) (d : Side) (q : Question) (ms : Nat) :
    IsEnvelope os d q.v q.x ms (envelope os d (window q ms)) := by
  refine ⟨fun lo hi limit hlo hhi hlimit => ?_⟩
  have hover (o : Obstacle) : o.limitOver (window q ms) = limit o := by
    rw [window_eq, ← hlo, ← hhi, limitOver_eq, hlimit]
  have hleast := envelope_least d (window q ms) os 3500
  simp only [hover] at hleast
  unfold envelope
  simp only [hover]
  exact hleast

theorem stepAnswer_envelope (s : State) (c : Completion) (d : Side) : (stepAnswer s c).envelope.get d =
    envelope s.obstacles d (window (stepQuestion s c) s.setup.control.lookahead) := by
  have hsame : ∀ e, envelope (s.obstacles.map fun o => o.settle c.station) e
      (window (stepQuestion s c) s.setup.control.lookahead) =
      envelope s.obstacles e (window (stepQuestion s c) s.setup.control.lookahead) := fun e => by
    unfold envelope
    rw [List.foldl_map]
    simp only [settle_eq]
    rfl
  cases d <;> exact hsame _

/-! ## The approach -/

/-- The approach Q with one more entry looked at (R79). -/
def widerQ (d : Side) (q : Question) (m : Option Nat) (o : Obstacle) : Option Nat :=
  if o.evaluated && o.inApproach d q then some (m.elim o.q fun n => max n o.q) else m

/-- The Q of the entries in approach for a side (R79). -/
def approachQs (os : List Obstacle) (d : Side) (q : Question) : List Nat :=
  (os.filter fun o => o.evaluated && o.inApproach d q).map Obstacle.q

theorem approachQ_eq_foldl (os : List Obstacle) (d : Side) (q : Question) :
    approachQ os d q = os.foldl (widerQ d q) none := by
  unfold approachQ
  congr 1
  funext m o
  unfold widerQ
  cases m <;> rfl

theorem approachQs_cons_pos {o : Obstacle} {os : List Obstacle} {d : Side} {q : Question}
    (h : (o.evaluated && o.inApproach d q) = true) : approachQs (o :: os) d q = o.q :: approachQs os d q :=
  congrArg (List.map Obstacle.q) (List.filter_cons_of_pos h)

theorem approachQs_cons_neg {o : Obstacle} {os : List Obstacle} {d : Side} {q : Question}
    (h : ¬(o.evaluated && o.inApproach d q) = true) : approachQs (o :: os) d q = approachQs os d q :=
  congrArg (List.map Obstacle.q) (List.filter_cons_of_neg h)

theorem foldl_widerQ_some (d : Side) (q : Question) (os : List Obstacle) (n : Nat) :
    os.foldl (widerQ d q) (some n) = some ((approachQs os d q).foldl max n) := by
  induction os generalizing n with
  | nil => rfl
  | cons o os ih =>
    by_cases ho : (o.evaluated && o.inApproach d q) = true
    · rw [List.foldl_cons, approachQs_cons_pos ho, widerQ, if_pos ho]
      exact ih _
    · rw [List.foldl_cons, approachQs_cons_neg ho, widerQ, if_neg ho]
      exact ih _

/-- The approach Q is the largest of the Q in approach (R79). -/
theorem approachQ_eq_max (os : List Obstacle) (d : Side) (q : Question) :
    approachQ os d q = (approachQs os d q).max? := by
  rw [approachQ_eq_foldl]
  induction os with
  | nil => rfl
  | cons o os ih =>
    by_cases ho : (o.evaluated && o.inApproach d q) = true
    · rw [List.foldl_cons, widerQ, if_pos ho, Option.elim_none, foldl_widerQ_some, approachQs_cons_pos ho,
        List.max?_cons']
    · rw [List.foldl_cons, widerQ, if_neg ho, approachQs_cons_neg ho, ih]

theorem mem_approachQs {os : List Obstacle} {d : Side} {q : Question} {n : Nat} : n ∈ approachQs os d q ↔
    ∃ o ∈ os, o.approaches d q.v q.x (q.targets.get d) ∧ o.q = n := by
  simp only [approachQs, List.mem_map, List.mem_filter, approaches_iff, and_assoc]

theorem approachQ_none {os : List Obstacle} {d : Side} {q : Question} : approachQ os d q = none ↔
    ∀ o ∈ os, ¬o.approaches d q.v q.x (q.targets.get d) := by
  rw [approachQ_eq_max, List.max?_eq_none_iff, List.eq_nil_iff_forall_not_mem]
  simp only [mem_approachQs, not_exists, not_and]
  exact ⟨fun h o ho hnear => h _ o ho hnear rfl, fun h n o ho hnear => absurd hnear (h o ho)⟩

theorem approachQ_some {os : List Obstacle} {d : Side} {q : Question} {n : Nat} : approachQ os d q = some n ↔
    (∃ o ∈ os, o.approaches d q.v q.x (q.targets.get d) ∧ o.q = n) ∧
      ∀ o ∈ os, o.approaches d q.v q.x (q.targets.get d) → o.q ≤ n := by
  rw [approachQ_eq_max, List.max?_eq_some_iff, mem_approachQs]
  refine and_congr_right fun _ => ⟨fun h o ho hnear => h _ (mem_approachQs.mpr ⟨o, ho, hnear, rfl⟩), fun h k hk => ?_⟩
  obtain ⟨o, ho, hnear, rfl⟩ := mem_approachQs.mp hk
  exact h o ho hnear

theorem stepAnswer_approach (s : State) (c : Completion) (d : Side) : (stepAnswer s c).approach.get d =
    approachQ s.obstacles d (stepQuestion s c) := by
  have hsame : ∀ e, approachQ (s.obstacles.map fun o => o.settle c.station) e (stepQuestion s c) =
      approachQ s.obstacles e (stepQuestion s c) := fun e => by
    rw [approachQ_eq_foldl, approachQ_eq_foldl, List.foldl_map]
    simp only [settle_eq]
    rfl
  cases d <;> exact hsame _

end Sys2Proof.Machine
end

section
/-! Passages and breaches at a step, and a breach mark taken (R80 to R83, R105). -/

namespace Sys2Proof.Machine

open Sys2Proof

/-! ## The classes a step posts -/

section
variable {x : Nat} {d : Side} {o : Occurrence}

theorem switchPosts_cls {last used : Option Channel} (h : o ∈ switchPosts x d last used) : o.cls = .referenceSwitched := by
  unfold switchPosts at h
  split at h
  · split at h
    · exact nomatch h
    · rw [List.mem_singleton.mp h]
  · exact nomatch h

theorem unsampledPosts_cls {s : State} {os : List Obstacle} (h : o ∈ unsampledPosts s x os) :
    o.cls = .obstacleUnsampled := by
  unfold unsampledPosts at h
  obtain ⟨p, -, rfl⟩ := List.mem_map.mp h
  rfl

theorem lossPosts_cls {w : SideWork} {cause : LostCause} (h : o ∈ lossPosts x d w cause) : o.cls = .referenceLost := by
  unfold lossPosts at h
  split at h
  · rw [List.mem_singleton.mp h]
  · exact nomatch h

theorem rampOccurs_cls {cap held : Option Nat} {q : Sides (Option Nat)} (h : o ∈ rampOccurs x cap held q) :
    o.cls = .rampLimited := by
  unfold rampOccurs at h
  split at h
  · split at h
    · exact nomatch h
    · rw [List.mem_singleton.mp h]
  · exact nomatch h

end

/-- The occurrences of a step, by the part that posts them. -/
theorem mem_stepPosts {s : State} {c : Completion} {r f : Side} {o : Occurrence} : o ∈ stepPosts s c r f ↔
    o ∈ switchPosts c.station r (s.grade.sides.get r).lastUsed (fuseReference s.setup.geometry c).used ∨
    o ∈ switchPosts c.station f (s.grade.sides.get f).lastUsed (fuseFar s.setup.geometry c).used ∨
    o ∈ unsampledPosts s c.station s.obstacles ∨
    o ∈ lossPosts c.station r (stepWork s c r) (lostCause s.setup.geometry c r) ∨
    o ∈ lossPosts c.station f (stepWork s c f) (lostCause s.setup.geometry c f) ∨
    o ∈ rampOccurs c.station (stepRamp s c) s.grade.ramp
      ⟨(stepWork s c .left).approach, (stepWork s c .right).approach⟩ := by
  simp only [stepPosts, List.mem_append, or_assoc]

/-- The flags a step sets are those of the occurrences it posts. -/
theorem controlStep_latched (s : State) (c : Completion) (k : NoticeClass) :
    (controlStep s c).notices.latched.get k = true ↔ s.notices.latched.get k = true ∨
      ∃ o ∈ stepPosts s c s.setup.geometry.refSide s.setup.geometry.refSide.other, o.cls = k := by
  rw [(controlStep_posts s c).latched k, Bool.or_eq_true, List.any_eq_true]
  simp only [decide_eq_true_iff]

/-! ## The entries at a step -/

theorem judgedUnsampled_iff (o : Obstacle) (x : Nat) : (o.markSampled x).judgedUnsampled = true ↔
    o.passage = .closing ∧ o.watched = true ∧ o.sampled = false ∧ ¬(o.start ≤ x ∧ x < o.start + o.length) := by
  unfold Obstacle.markSampled Obstacle.judgedUnsampled
  rw [o.contains_eq]
  by_cases hx : o.start ≤ x ∧ x < o.start + o.length
  · cases hp : o.passage <;> simp [hx, hp]
  · simp [hx, and_assoc]

theorem stepQuestion_target (s : State) (c : Completion) (d : Side) :
    (stepQuestion s c).targets.get d = (stepSide s c d).target := by cases d <;> rfl

theorem stepWorks_get (s : State) (c : Completion) (d : Side) :
    (Sides.mk (stepWork s c .left).fused.depth (stepWork s c .right).fused.depth).get d =
      (stepWork s c d).fused.depth := by cases d <;> rfl

/-- The state a step gives an entry (R79). -/
def stepJudged (s : State) (c : Completion) (o : Obstacle) : ObstacleState :=
  ((o.questioned c.station).evaluate (stepQuestion s c)).state

theorem stepJudged_eq (s : State) (c : Completion) (o : Obstacle) : stepJudged s c o =
    if (o.evaluated && o.inApproach .left (stepQuestion s c) || o.evaluated && o.inApproach .right (stepQuestion s c)) = true
    then .approach
    else if o.state = .approach then (if o.crossed then .depart else .pending) else o.state := evaluate_state _ _

theorem stepJudged_approach {s : State} {c : Completion} {o : Obstacle} {d : Side}
    (h : o.approaches d c.speed c.station (stepSide s c d).target) : stepJudged s c o = .approach := by
  rw [← stepQuestion_target] at h
  have hnear := (approaches_iff o d (stepQuestion s c)).mpr h
  rw [stepJudged_eq, if_pos]
  rw [Bool.or_eq_true]
  cases d with
  | left => exact .inl hnear
  | right => exact .inr hnear

theorem stepJudged_away {s : State} {c : Completion} {o : Obstacle}
    (h : ∀ d, ¬o.approaches d c.speed c.station (stepSide s c d).target) : stepJudged s c o =
      if o.state = .approach then (if o.crossed then .depart else .pending) else o.state := by
  rw [stepJudged_eq, if_neg]
  rw [Bool.or_eq_true, approaches_iff, approaches_iff, stepQuestion_target, stepQuestion_target]
  exact fun hor => hor.elim (h .left) (h .right)

theorem controlStep_entries (s : State) (c : Completion) : (controlStep s c).obstacles =
    s.obstacles.map fun o => { o.questioned c.station with state := stepJudged s c o } := by
  rw [controlStep_obstacles, List.map_map]
  refine List.map_congr_left fun o _ => ?_
  simp only [Function.comp_apply, settle_eq]
  exact evaluate_eq _ _

/-- The entries that a breach check of a step looks at (R81, R105). -/
theorem mem_stepInside {s : State} {c : Completion} {i : BreachItem} : i ∈ (stepAnswer s c).inside ↔
    ∃ o ∈ s.obstacles, (o.start ≤ c.station ∧ c.station < o.start + o.length) ∧
      i = { id := o.id, sides := o.mask, cap := o.cap, tolerance := o.tolerance.getD s.setup.control.tolerance } := by
  have hinside : (stepAnswer s c).inside = breachList (s.obstacles.map fun o => o.questioned c.station) c.station
      s.setup.control.tolerance := by
    simp only [← settle_eq]
    rfl
  rw [hinside, breachList, List.filter_map, List.map_map]
  simp only [List.mem_map, List.mem_filter, Function.comp_apply, and_assoc]
  refine exists_congr fun o => and_congr_right fun _ => ?_
  rw [show (o.questioned c.station).contains c.station = decide (o.start ≤ c.station ∧ c.station < o.start + o.length)
    from rfl, decide_eq_true_iff, and_assoc, eq_comm]
  rfl

theorem breachMark_handed {s : State} {c : Completion} {id : Nat} {d : Side} {m : Int} {b : Nat} :
    .breachMark id d m b ∈ (controlStep s c).handed ↔ .breachMark id d m b ∈ s.handed ∨
      (stepSide s c d).reference = true ∧ m = (stepSide s c d).depth ∧ (b : Int) < m ∧
        ∃ o ∈ s.obstacles, o.id = id ∧ o.start ≤ c.station ∧ c.station < o.start + o.length ∧
          o.covers d = true ∧ b = o.cap + o.tolerance.getD s.setup.control.tolerance := by
  have hothers : .breachMark id d m b ∈ (controlStep s c).handed ↔ .breachMark id d m b ∈ s.handed ∨
      .breachMark id d m b ∈
        breachHands (stepAnswer s c).inside (stepWork s c .left).fused.depth (stepWork s c .right).fused.depth := by
    simp [mem_controlStep_handed, sideHands, mem_lossHands, mem_returnHands, mem_commandHands, mem_rampHands]
  rw [hothers, mem_breachHands]
  refine or_congr_right ⟨?_, ?_⟩
  · rintro ⟨i, hi, e, n, hn, hcovers, hlt, heq⟩
    obtain ⟨o, ho, hin, rfl⟩ := mem_stepInside.mp hi
    obtain ⟨rfl, rfl, rfl, rfl⟩ := Instr.breachMark.inj heq
    rw [stepWorks_get] at hn
    have href : (stepSide s c d).reference = true := by rw [stepSide_reference, hn]; rfl
    exact ⟨href, Option.some_inj.mp (hn.symm.trans (depth_of_reference href)), hlt, o, ho, rfl, hin.1, hin.2, hcovers, rfl⟩
  · rintro ⟨href, hm, hlt, o, ho, rfl, h1, h2, hcovers, rfl⟩
    refine ⟨_, mem_stepInside.mpr ⟨o, ho, ⟨h1, h2⟩, rfl⟩, d, m, ?_, hcovers, hlt, rfl⟩
    rw [stepWorks_get, depth_of_reference href, hm]

theorem unsampled_latched (s : State) (c : Completion) :
    (controlStep s c).notices.latched.obstacleUnsampled = true ↔ s.notices.latched.obstacleUnsampled = true ∨
      ∃ o ∈ s.obstacles, o.passage = .closing ∧ o.watched = true ∧ o.sampled = false ∧
        ¬(o.start ≤ c.station ∧ c.station < o.start + o.length) := by
  refine (controlStep_latched s c .obstacleUnsampled).trans (or_congr_right ⟨?_, ?_⟩)
  · rintro ⟨p, hp, hcls⟩
    rcases mem_stepPosts.mp hp with hp | hp | hp | hp | hp | hp
    · exact nomatch (switchPosts_cls hp).symm.trans hcls
    · exact nomatch (switchPosts_cls hp).symm.trans hcls
    · obtain ⟨o, ho, -⟩ := List.mem_map.mp hp
      obtain ⟨ho, hjudged⟩ := List.mem_filter.mp ho
      exact ⟨o, ho, (judgedUnsampled_iff o _).mp hjudged⟩
    · exact nomatch (lossPosts_cls hp).symm.trans hcls
    · exact nomatch (lossPosts_cls hp).symm.trans hcls
    · exact nomatch (rampOccurs_cls hp).symm.trans hcls
  · rintro ⟨o, ho, hjudged⟩
    exact ⟨_, mem_stepPosts.mpr (.inr (.inr (.inl (List.mem_map_of_mem
      (List.mem_filter.mpr ⟨ho, (judgedUnsampled_iff o _).mpr hjudged⟩))))), rfl⟩

/-! ## A breach mark taken -/

theorem takeBreachMark_marks {s : State} {id : Nat} {d : Side} {m : Int} {b : Nat} {o : Obstacle} (hs : LineInv s)
    (ho : s.obstacles.find? (fun o => o.id == id) = some o) (hb : o.breached = false) : takeBreachMark s id d m b =
      { State.occurred s .obstacleBreach s.travel.station (.obstacleBreach id d m b) with
        obstacles := s.obstacles.map (fun o => if o.id = id then { o with breached := true } else o),
        handed := s.handed ++ if o.hold = some true then [.reasonAdd .breach 0] else [] } := by
  have hline : LineInv (s.setObstacles (setBreached s.obstacles id)) := ⟨hs.1, hs.2.1, hs.2.2⟩
  have hpost : post (s.setObstacles (setBreached s.obstacles id)) .obstacleBreach (.obstacleBreach id d m b) =
      State.occurred (s.setObstacles (setBreached s.obstacles id)) .obstacleBreach s.travel.station
        (.obstacleBreach id d m b) := postAt_eq _ _ _ _ hline
  unfold takeBreachMark
  simp only [ho, hb, hpost, Bool.false_eq_true, if_false]
  split
  · rfl
  · rw [List.append_nil]
    rfl

/-- Settles O36. -/
theorem breachMarkTaken : Obligations.BreachMarkTaken := by
  unfold Obligations.BreachMarkTaken
  refine ⟨?_, fun id d m b s u hs hu => ⟨fun hnone => ?_, fun o ho => ⟨fun hb => ?_, fun hb => ?_⟩⟩⟩
  · rintro s t c rfl
    simp only [controlStep_side]
    exact ⟨fun id d m b => breachMark_handed, ⟨stepJudged s c, controlStep_entries s c,
      fun o _ => ⟨fun ⟨d, h⟩ => stepJudged_approach h, stepJudged_away⟩⟩, unsampled_latched s c⟩
  all_goals have hexec : exec (.breachMark id d m b) s = .next (takeBreachMark u id d m b) := by subst hu; rfl
  all_goals have hobstacles : u.obstacles = s.obstacles := by rw [hu]
  · rw [hexec]
    unfold takeBreachMark
    simp only [hobstacles, hnone]
  · rw [hexec]
    unfold takeBreachMark
    simp only [hobstacles, ho, hb, if_true]
  · have hline : LineInv u := by
      subst hu
      exact ⟨hs.1, hs.2.1, hs.2.2⟩
    have hstation : u.travel = s.travel := by rw [hu]
    rw [hexec, takeBreachMark_marks hline (hobstacles ▸ ho) hb, hstation, hobstacles]

end Sys2Proof.Machine
end

section
/-! The control step of a side: fusion, target, envelope, error, law and slew (R88 to R101). -/

namespace Sys2Proof.Machine

open Sys2Proof

/-! ## Fusion -/

theorem clampDepth_eq (m : Int) : clampDepth m = max (-5000) (min 7000 m) := clamp_eq (by decide) m

theorem firstUsable_of_split {c : Completion} {before behind : List Channel} {ch : Channel} {v : Int}
    (hb : ∀ k ∈ before, usableValue c .distance k = none) (hv : usableValue c .distance ch = some v) :
    firstUsable c (before ++ ch :: behind) = some (ch, v) := by
  induction before with
  | nil => simp only [List.nil_append, firstUsable, hv]
  | cons k before ih =>
    simp only [List.cons_append, firstUsable, hb k List.mem_cons_self]
    exact ih fun e he => hb e (List.mem_cons_of_mem _ he)

theorem firstUsable_none {c : Completion} {group : List Channel} (h : ∀ k ∈ group, usableValue c .distance k = none) :
    firstUsable c group = none := by
  induction group with
  | nil => rfl
  | cons k group ih =>
    simp only [firstUsable, h k List.mem_cons_self]
    exact ih fun e he => h e (List.mem_cons_of_mem _ he)

theorem fuseGroup_first {c : Completion} {before behind : List Channel} {ch : Channel} {v : Int}
    (hb : ∀ k ∈ before, usableValue c .distance k = none) (hv : usableValue c .distance ch = some v) :
    fuseGroup .gradeOne (before ++ ch :: behind) c = { depth := some (max (-5000) (min 7000 v)), used := some ch } := by
  simp only [fuseGroup, firstUsable_of_split hb hv, clampDepth_eq]

theorem fuseGroup_none {mode : SideMode} {c : Completion} {group : List Channel}
    (h : ∀ k ∈ group, usableValue c .distance k = none) : fuseGroup mode group c = { depth := none, used := none } := by
  have hempty : group.filterMap (usableValue c .distance) = [] := List.filterMap_eq_nil_iff.mpr h
  cases mode with
  | gradeOne => simp only [fuseGroup, firstUsable_none h]
  | gradeMean =>
    simp only [fuseGroup, hempty]
    rfl
  | slope => rfl

theorem fuseGroup_mean {c : Completion} {group : List Channel} {vs : List Int}
    (hvs : vs = group.filterMap (usableValue c .distance)) (hne : vs ≠ []) : fuseGroup .gradeMean group c =
      { depth := some (max (-5000) (min 7000 (roundDiv vs.sum vs.length))), used := none } := by
  have hmean : meanValue vs = some (roundDiv vs.sum vs.length) := if_neg (mt List.isEmpty_iff.mp hne)
  simp only [fuseGroup, ← hvs, hmean, Option.map_some, clampDepth_eq]

section
variable {p : Geometry} {c : Completion} {d : Side} {mode : SideMode} {group : List Channel}
  (hmode : mode = if d = p.refSide then p.refMode else p.farMode)
include hmode

theorem fuseSide_of_group (hgroup : group = if d = p.refSide then p.refGroup.channels else p.farGroup.channels)
    (hslope : mode ≠ .slope) : fuseSide p c d = fuseGroup mode group c := by
  unfold fuseSide
  by_cases hd : d = p.refSide
  · rw [if_pos hd] at hmode hgroup ⊢
    rw [hmode, hgroup]
    rfl
  · rw [if_neg hd] at hmode hgroup ⊢
    rw [hmode] at hslope ⊢
    rw [hgroup]
    unfold fuseFar
    cases hfar : p.farMode with
    | slope => exact absurd hfar hslope
    | _ => rfl

theorem fuseSide_slope (hslope : mode = .slope) (hd : d ≠ p.refSide) :
    (∀ m v, (fuseReference p c).depth = some m → usableValue c .slope p.slopeChannel = some v →
      fuseSide p c d = { depth := some (max (-5000) (min 7000 (m + roundDiv (v * p.width) 1000))), used := none }) ∧
    ((fuseReference p c).depth = none ∨ usableValue c .slope p.slopeChannel = none →
      fuseSide p c d = { depth := none, used := none }) := by
  rw [if_neg hd] at hmode
  have hfar : p.farMode = .slope := hmode.symm.trans hslope
  unfold fuseSide fuseFar
  rw [if_neg hd]
  simp only [hfar]
  refine ⟨fun m v hm hv => ?_, fun h => ?_⟩
  · simp only [hm, hv, clampDepth_eq]
    rfl
  · rcases h with h | h
    · simp only [h]
    · simp only [h]
      cases (fuseReference p c).depth <;> rfl

theorem sideTarget_eq {s : State} (hp : s.setup.geometry = p) :
    (targetAt s c.station = none → sideTarget s c d = none) ∧
    ∀ tg, targetAt s c.station = some tg →
      (d = p.refSide → sideTarget s c d = some (tg.depth + (s.grade.sides.get d).trim)) ∧
      (d ≠ p.refSide → mode ≠ .slope →
        sideTarget s c d = some (tg.depth + roundDiv (tg.slope * p.width) 1000 + (s.grade.sides.get d).trim)) ∧
      (d ≠ p.refSide → mode = .slope → sideTarget s c d =
        (fuseReference p c).depth.map fun m =>
          m + roundDiv (tg.slope * p.width) 1000 + (s.grade.sides.get d).trim) := by
  unfold sideTarget
  simp only [hp]
  refine ⟨fun h => by simp only [h], fun tg htg => ⟨fun hd => ?_, fun hd hslope => ?_, fun hd hslope => ?_⟩⟩
  · simp only [htg, if_pos hd]
  · rw [if_neg hd] at hmode
    simp only [htg, if_neg hd]
    cases hfar : p.farMode with
    | slope => exact absurd (hmode.trans hfar) hslope
    | _ => rfl
  · rw [if_neg hd] at hmode
    simp only [htg, if_neg hd, ← hmode, hslope]
    rfl

end

/-! ## What a step records of a side -/

section
variable {s : State} {c : Completion} {d : Side}

theorem stepSide_of_depth {m : Int} (h : (fuseSide s.setup.geometry c d).depth = some m) :
    (stepSide s c d).reference = true ∧ (stepSide s c d).depth = m := by
  have hreference : (stepSide s c d).reference = (fuseSide s.setup.geometry c d).depth.isSome := rfl
  have hdepth : (stepSide s c d).depth = (fuseSide s.setup.geometry c d).depth.getD (s.grade.sides.get d).depth := rfl
  rw [hreference, hdepth, h]
  exact ⟨rfl, rfl⟩

theorem stepSide_of_no_depth (h : (fuseSide s.setup.geometry c d).depth = none) :
    (stepSide s c d).reference = false ∧ (stepSide s c d).depth = (s.grade.sides.get d).depth := by
  have hreference : (stepSide s c d).reference = (fuseSide s.setup.geometry c d).depth.isSome := rfl
  have hdepth : (stepSide s c d).depth = (fuseSide s.setup.geometry c d).depth.getD (s.grade.sides.get d).depth := rfl
  rw [hreference, hdepth, h]
  exact ⟨rfl, rfl⟩

theorem stepSide_of_used {ch : Channel} (h : (fuseSide s.setup.geometry c d).used = some ch) :
    (stepSide s c d).inUse = some ch ∧ (stepSide s c d).lastUsed = some ch := by
  have hlast : (stepSide s c d).lastUsed = if (fuseSide s.setup.geometry c d).used.isSome then
      (fuseSide s.setup.geometry c d).used else (s.grade.sides.get d).lastUsed := rfl
  have huse : (stepSide s c d).inUse = (fuseSide s.setup.geometry c d).used := rfl
  rw [hlast, huse, h]
  exact ⟨rfl, rfl⟩

theorem stepSide_of_unused (h : (fuseSide s.setup.geometry c d).used = none) :
    (stepSide s c d).inUse = none ∧ (stepSide s c d).lastUsed = (s.grade.sides.get d).lastUsed := by
  have hlast : (stepSide s c d).lastUsed = if (fuseSide s.setup.geometry c d).used.isSome then
      (fuseSide s.setup.geometry c d).used else (s.grade.sides.get d).lastUsed := rfl
  have huse : (stepSide s c d).inUse = (fuseSide s.setup.geometry c d).used := rfl
  rw [hlast, huse, h]
  exact ⟨rfl, rfl⟩

/-- The fused depth of the reference side, by what the step records (R94). -/
theorem fuseReference_depth (s : State) (c : Completion) :
    ((stepSide s c s.setup.geometry.refSide).reference = true → (fuseReference s.setup.geometry c).depth =
      some (stepSide s c s.setup.geometry.refSide).depth) ∧
    ((stepSide s c s.setup.geometry.refSide).reference = false → (fuseReference s.setup.geometry c).depth = none) := by
  have hfuse : (stepWork s c s.setup.geometry.refSide).fused = fuseReference s.setup.geometry c := if_pos rfl
  rw [← hfuse]
  exact ⟨depth_of_reference, depth_of_no_reference⟩

/-- A side that uses another channel than its last sets the flag (R91). -/
theorem referenceSwitched_latched {a ch : Channel} (hlast : (s.grade.sides.get d).lastUsed = some a)
    (hused : (fuseSide s.setup.geometry c d).used = some ch) (hne : a ≠ ch) :
    (controlStep s c).notices.latched.referenceSwitched = true := by
  refine (controlStep_latched s c .referenceSwitched).mpr (.inr ?_)
  have hmem : (⟨.referenceSwitched, c.station, .referenceSwitched d a ch⟩ : Occurrence) ∈
      switchPosts c.station d (s.grade.sides.get d).lastUsed (fuseSide s.setup.geometry c d).used := by
    rw [hlast, hused, switchPosts]
    simp [hne]
  refine ⟨⟨.referenceSwitched, c.station, .referenceSwitched d a ch⟩, mem_stepPosts.mpr ?_, rfl⟩
  unfold fuseSide at hmem
  by_cases hd : d = s.setup.geometry.refSide
  · rw [if_pos hd, hd] at hmem
    exact .inl (hd ▸ hmem)
  · have hother : d = s.setup.geometry.refSide.other := by
      cases d <;> cases hr : s.setup.geometry.refSide <;> simp_all [Side.other]
    rw [if_neg hd, hother] at hmem
    exact .inr (.inl (hother ▸ hmem))

/-! ## The law -/

theorem rawCommand_eq (b k : Nat) (e : Int) : rawCommand b k e =
    if (e.natAbs : Int) ≤ b then 0 else e.sign * min 1000 (k * ((e.natAbs : Int) - b)) := by
  unfold rawCommand rawMagnitude
  by_cases hdead : e.natAbs ≤ b
  · rw [if_pos hdead, if_pos (by exact_mod_cast hdead)]
  · rw [if_neg hdead, if_neg (c := (e.natAbs : Int) ≤ b) (by exact_mod_cast hdead)]
    have hcast : ((min 1000 (k * (e.natAbs - b)) : Nat) : Int) = min 1000 (k * ((e.natAbs : Int) - b)) := by
      push_cast [Nat.cast_sub (Nat.le_of_lt (Nat.not_le.mp hdead))]
      rfl
    rw [hcast]
    by_cases hpos : 0 < e
    · rw [if_pos hpos, Int.sign_eq_one_of_pos hpos, one_mul]
    · have hneg : e < 0 := by omega
      rw [if_neg hpos, Int.sign_eq_neg_one_of_neg hneg, neg_one_mul]

theorem effectiveTarget_eq (t : Int) (e : Nat) : effectiveTarget t e = max 0 (min 3500 (min t e)) :=
  clamp_eq (by decide) _

theorem stepError_eq (effective m : Int) : stepError effective m = max (-2000) (min 2000 (effective - m)) :=
  clamp_eq (by decide) _

/-- The effective target, the error and the command that a step records of a side, from its target (R98 to R101). -/
theorem stepSide_of_target {T : Int} (hT : (stepSide s c d).target = some T) :
    (stepSide s c d).effective = max 0 (min 3500 (min T (stepSide s c d).envelope)) ∧
    ((stepSide s c d).reference = true →
      (stepSide s c d).error = max (-2000) (min 2000 ((stepSide s c d).effective - (stepSide s c d).depth)) ∧
      ((legOf s d).mode = .auto → (stepSide s c d).command =
        some (slewToward s.setup.control.slew (legOf s d).output
          (rawCommand s.setup.control.deadband s.setup.control.gain (stepSide s c d).error)))) := by
  have hwork : (stepWork s c d).effective = some (effectiveTarget T (stepSide s c d).envelope) := by
    change (sideTarget s c d).map _ = _
    rw [show sideTarget s c d = some T from hT]
    rfl
  have heffective : (stepSide s c d).effective = effectiveTarget T (stepSide s c d).envelope := by
    change (stepWork s c d).effective.getD _ = _
    rw [hwork]
    rfl
  refine ⟨heffective.trans (effectiveTarget_eq _ _), fun href => ?_⟩
  have hdepth := depth_of_reference href
  have herr : (stepWork s c d).error = some (stepError (stepSide s c d).effective (stepSide s c d).depth) := by
    rw [heffective]
    unfold stepWork sideWork at hwork hdepth ⊢
    simp only at hwork hdepth ⊢
    simp only [hwork, hdepth]
  have herror : (stepSide s c d).error = stepError (stepSide s c d).effective (stepSide s c d).depth := by
    change (stepWork s c d).error.getD _ = _
    rw [herr]
    rfl
  refine ⟨herror.trans (stepError_eq _ _), fun hauto => ?_⟩
  rw [herror]
  have hbeq : ((legOf s d).mode == .auto) = true := beq_iff_eq.mpr hauto
  change (if ((legOf s d).mode == .auto) = true then (stepWork s c d).error.map _ else none) = _
  rw [if_pos hbeq, herr]
  rfl

theorem stepSide_of_no_target (hT : (stepSide s c d).target = none) :
    (stepSide s c d).effective = (s.grade.sides.get d).effective ∧ (stepWork s c d).effective = none := by
  have hwork : (stepWork s c d).effective = none := by
    change (sideTarget s c d).map _ = _
    rw [show sideTarget s c d = none from hT]
    rfl
  refine ⟨?_, hwork⟩
  change (stepWork s c d).effective.getD _ = _
  rw [hwork]
  rfl

/-- Without a reference or a target a side has no error at the step (R99, R102, R104). -/
theorem stepWork_no_error (h : (stepSide s c d).reference = false ∨ (stepSide s c d).target = none) :
    (stepWork s c d).error = none := by
  rcases h with h | h
  · have hdepth := depth_of_no_reference h
    unfold stepWork sideWork at hdepth ⊢
    simp only at hdepth ⊢
    rw [hdepth]
    cases (sideTarget s c d).map fun t => effectiveTarget t ((stepAnswer s c).envelope.get d) <;> rfl
  · have heffective := (stepSide_of_no_target h).2
    unfold stepWork sideWork at heffective ⊢
    simp only at heffective ⊢
    rw [heffective]

theorem legCommand_handed {u : Int} : .legCommand d u ∈ (controlStep s c).handed ↔
    .legCommand d u ∈ s.handed ∨ (stepSide s c d).command = some u := by
  have hcommand : (∃ e, Instr.legCommand d u ∈ commandHands e (stepWork s c e)) ↔ (stepWork s c d).command = some u := by
    simp only [mem_commandHands]
    constructor
    · rintro ⟨e, v, hv, heq⟩
      obtain ⟨rfl, rfl⟩ := Instr.legCommand.inj heq
      exact hv
    · exact fun h => ⟨d, u, h, rfl⟩
  have hothers : .legCommand d u ∈ (controlStep s c).handed ↔ .legCommand d u ∈ s.handed ∨
      ∃ e, Instr.legCommand d u ∈ commandHands e (stepWork s c e) := by
    simp [mem_controlStep_handed, sideHands, mem_breachHands, mem_lossHands, mem_returnHands, mem_rampHands]
  rw [hothers, hcommand]
  rfl

end

/-! ## The statement's parts -/

theorem stepSide_target_eq (s : State) (c : Completion) (d : Side) : (stepSide s c d).target = sideTarget s c d := rfl

/-- The target at a station by the position there (R44). -/
theorem targetAt_of_position (s : State) (x : Nat) (g : Segment) {slope : Int}
    (hslope : (effectiveSlope s.program s.setup.control.defaultSlope g).1 = slope) :
    (positionIn s.program.segments x = .inside g → targetAt s x =
      some { kind := .inside, depth := g.depth + roundDiv (((x : Int) - g.start) * g.grade) 100, slope := slope,
             id := g.id }) ∧
    (∀ next, positionIn s.program.segments x = .gap g next → targetAt s x =
      some { kind := .gap, depth := g.depth + roundDiv ((g.length : Int) * g.grade) 100, slope := slope,
             id := g.id }) ∧
    (positionIn s.program.segments x = .beyond g → targetAt s x =
      some { kind := .beyond, depth := g.depth + roundDiv ((g.length : Int) * g.grade) 100, slope := slope,
             id := g.id }) ∧
    (positionIn s.program.segments x = .empty ∨ positionIn s.program.segments x = .before → targetAt s x = none) := by
  subst hslope
  unfold targetAt
  refine ⟨fun h => ?_, fun next h => ?_, fun h => ?_, fun h => ?_⟩
  · simp only [h]
    rfl
  · simp only [h]
    rfl
  · simp only [h]
    rfl
  · rcases h with h | h <;> simp only [h]

/-- A side in AUTO with a depth and a target hands its slewed command (R98 to R101). -/
theorem command_handed {s : State} {c : Completion} {d : Side} {T : Int} (hT : (stepSide s c d).target = some T)
    (href : (stepSide s c d).reference = true) (hauto : (legOf s d).mode = .auto) {raw : Int}
    (hraw : raw = rawCommand s.setup.control.deadband s.setup.control.gain (stepSide s c d).error) :
    (stepSide s c d).command = some (max ((legOf s d).output - s.setup.control.slew)
        (min ((legOf s d).output + s.setup.control.slew) raw)) ∧
      .legCommand d (max ((legOf s d).output - s.setup.control.slew)
        (min ((legOf s d).output + s.setup.control.slew) raw)) ∈ (controlStep s c).handed := by
  have hcommand := ((stepSide_of_target hT).2 href).2 hauto
  rw [← hraw, slewToward_eq] at hcommand
  exact ⟨hcommand, legCommand_handed.mpr (.inr hcommand)⟩

theorem stepSide_envelope (s : State) (c : Completion) (d : Side) :
    IsEnvelope s.obstacles d c.speed c.station s.setup.control.lookahead (stepSide s c d).envelope := by
  have henvelope : (stepSide s c d).envelope = _ := stepAnswer_envelope s c d
  rw [henvelope]
  exact envelope_isEnvelope s.obstacles d (stepQuestion s c) _

/-- The first usable channel of a group, with no entry in the table (R90 to R101). -/
theorem controlStep_simple {s : State} {c : Completion} {d : Side} {ch : Channel} {v last target m e raw : Int}
    {g : Segment} (hobstacles : s.obstacles = []) (hside : s.setup.geometry.refSide = d)
    (hmode : s.setup.geometry.refMode = .gradeOne) (hgroup : s.setup.geometry.refGroup.channels = [ch])
    (hv : usableValue c .distance ch = some v) (hauto : (legOf s d).mode = .auto) (hlast : (legOf s d).output = last)
    (hposition : positionIn s.program.segments c.station = .inside g)
    (htarget : target = g.depth + roundDiv (((c.station : Int) - g.start) * g.grade) 100 + (s.grade.sides.get d).trim)
    (hm : m = max (-5000) (min 7000 v)) (he : e = max (-2000) (min 2000 (max 0 (min 3500 target) - m)))
    (hraw : raw = rawCommand s.setup.control.deadband s.setup.control.gain e) :
    .legCommand d (max (last - s.setup.control.slew) (min (last + s.setup.control.slew) raw)) ∈
        (controlStep s c).handed ∧
      (stepSide s c d).error = e ∧ (stepSide s c d).depth = m ∧ (stepSide s c d).target = some target ∧
      (stepSide s c d).inUse = some ch := by
  have hfuse : fuseSide s.setup.geometry c d = { depth := some m, used := some ch } := by
    rw [fuseSide, if_pos hside.symm, fuseReference, hmode, hgroup, hm]
    exact fuseGroup_first (before := []) nofun hv
  obtain ⟨href, hdepth⟩ := stepSide_of_depth (s := s) (congrArg Fused.depth hfuse)
  obtain ⟨huse, -⟩ := stepSide_of_used (s := s) (congrArg Fused.used hfuse)
  have hat := (targetAt_of_position s c.station g rfl).1 hposition
  have hT : (stepSide s c d).target = some target := by
    rw [stepSide_target_eq, ((sideTarget_eq (d := d) rfl rfl).2 _ hat).1 hside.symm, htarget]
  have henvelope : (stepSide s c d).envelope = 3500 := by
    have h : (stepSide s c d).envelope = _ := stepAnswer_envelope s c d
    rw [h, hobstacles]
    rfl
  obtain ⟨heffective, hrest⟩ := stepSide_of_target hT
  have herror : (stepSide s c d).error = e := by
    rw [(hrest href).1, heffective, henvelope, hdepth, he]
    omega
  have hcommand := command_handed hT href hauto (hraw.trans (by rw [herror]))
  rw [hlast] at hcommand
  exact ⟨hcommand.2, herror, hdepth, hT, huse⟩

/-- Settles O26: fusion by the mode of the side, then the law on what it gives. -/
theorem controlStepCommand : Obligations.ControlStepCommand := by
  unfold Obligations.ControlStepCommand
  refine ⟨?_, fun s x g => ⟨_, _, fun hinv => effectiveSlope_is s hinv s.setup.control.defaultSlope g,
    targetAt_of_position s x g rfl⟩, ?_, ?_⟩
  · intro s c d ch v last target m e g raw hobstacles hside hmode hgroup hv hauto hlast hposition htarget hm he hraw
    rw [controlStep_side]
    exact controlStep_simple hobstacles hside hmode hgroup hv hauto hlast hposition htarget hm he
      (hraw.trans (rawCommand_eq _ _ _).symm)
  · rintro s t c d p mode group old new ref rfl rfl hmode hgroup rfl hnew href
    rw [controlStep_side] at hnew href
    subst hnew href
    have hgroupFuse := fuseSide_of_group (c := c) hmode hgroup
    obtain ⟨hsome, hnone⟩ := fuseReference_depth s c
    obtain ⟨hno, htargets⟩ := sideTarget_eq (c := c) (s := s) hmode rfl
    refine ⟨?_, fun hslope hall => ?_, fun hmean vs hvs hne => ?_, fun hslope hd => ⟨fun v href hv => ?_, fun h => ?_, ?_⟩,
      hno, fun tg htg => ?_⟩
    · rintro rfl before ch behind v rfl hb hv
      have hfuse := (hgroupFuse (by nofun)).trans (fuseGroup_first hb hv)
      obtain ⟨hreference, hdepth⟩ := stepSide_of_depth (s := s) (congrArg Fused.depth hfuse)
      obtain ⟨huse, hlast⟩ := stepSide_of_used (s := s) (congrArg Fused.used hfuse)
      exact ⟨hreference, hdepth, huse, hlast,
        fun a ha hne => referenceSwitched_latched ha (congrArg Fused.used hfuse) hne⟩
    · have hfuse := (hgroupFuse hslope).trans (fuseGroup_none hall)
      obtain ⟨hreference, hdepth⟩ := stepSide_of_no_depth (s := s) (congrArg Fused.depth hfuse)
      obtain ⟨huse, hlast⟩ := stepSide_of_unused (s := s) (congrArg Fused.used hfuse)
      exact ⟨hreference, hdepth, huse, hlast⟩
    · subst hmean
      have hfuse := (hgroupFuse (by nofun)).trans (fuseGroup_mean hvs hne)
      obtain ⟨hreference, hdepth⟩ := stepSide_of_depth (s := s) (congrArg Fused.depth hfuse)
      obtain ⟨huse, hlast⟩ := stepSide_of_unused (s := s) (congrArg Fused.used hfuse)
      exact ⟨hreference, hdepth, huse, hlast⟩
    · exact stepSide_of_depth (s := s) (congrArg Fused.depth ((fuseSide_slope hmode hslope hd).1 _ v (hsome href) hv))
    · exact stepSide_of_no_depth (s := s)
        (congrArg Fused.depth ((fuseSide_slope hmode hslope hd).2 (h.imp_left hnone)))
    · refine stepSide_of_unused (s := s) ?_
      have hslopeFuse := fuseSide_slope (c := c) hmode hslope hd
      cases hm : (fuseReference s.setup.geometry c).depth with
      | none => rw [hslopeFuse.2 (.inl hm)]
      | some m =>
        cases hv : usableValue c .slope s.setup.geometry.slopeChannel with
        | none => rw [hslopeFuse.2 (.inr hv)]
        | some v => rw [hslopeFuse.1 m v hm hv]
    · obtain ⟨hself, hgrade, hacross⟩ := htargets tg htg
      refine ⟨hself, hgrade, fun hd hslope href => ?_, fun hd hslope href => ?_⟩
      · rw [stepSide_target_eq, hacross hd hslope, hsome href]
        rfl
      · rw [stepSide_target_eq, hacross hd hslope, hnone href]
        rfl
  · rintro s t c d k old new last raw rfl rfl rfl rfl hnew hraw
    rw [controlStep_side] at hnew
    subst hnew
    have hraw' := hraw.trans (rawCommand_eq s.setup.control.deadband s.setup.control.gain (stepSide s c d).error).symm
    have hkept (h : (stepSide s c d).reference = false ∨ (stepSide s c d).target = none) :
        (stepSide s c d).error = (s.grade.sides.get d).error := by
      change (stepWork s c d).error.getD _ = _
      rw [stepWork_no_error h]
      rfl
    have hsome (h : (stepSide s c d).target ≠ none) : ∃ T, (stepSide s c d).target = some T :=
      Option.ne_none_iff_exists'.mp h
    refine ⟨stepSide_envelope s c d, fun T hT => (stepSide_of_target hT).1, fun hT => (stepSide_of_no_target hT).1,
      fun href hT => ?_, hkept, fun hauto href hT => ?_, fun h => ?_⟩
    · obtain ⟨T, hT⟩ := hsome hT
      exact ((stepSide_of_target hT).2 href).1
    · obtain ⟨T, hT⟩ := hsome hT
      exact ⟨_, rfl, command_handed hT href hauto hraw'⟩
    · have hcommand : (stepSide s c d).command = none := by
        change (if ((legOf s d).mode == .auto) = true then (stepWork s c d).error.map _ else none) = none
        rcases h with h | h
        · exact if_neg (mt beq_iff_eq.mp h)
        · rw [stepWork_no_error h, Option.map_none, ite_self]
      refine ⟨hcommand, fun u hu => (legCommand_handed.mp hu).resolve_right fun hu => ?_⟩
      rw [hcommand] at hu
      exact nomatch hu

end Sys2Proof.Machine
end

section
/-! The reference-hold and approach marks at a step, and the reports that clear them (R102 to R107, R110). -/

namespace Sys2Proof.Machine

open Sys2Proof

/-! ## Lost references -/

section
variable {s : State} {c : Completion} {d : Side}

theorem stepLost_iff : (stepWork s c d).lost = true ↔ (legOf s d).mode = .auto ∧ (stepSide s c d).reference = false := by
  have hauto : (stepWork s c d).auto = ((legOf s d).mode == .auto) := rfl
  rw [SideWork.lost, hauto, stepSide_reference, Bool.and_eq_true, beq_iff_eq, Option.isNone_iff_eq_none,
    Option.isSome_eq_false_iff, Option.isNone_iff_eq_none]

theorem stepSide_refHold : (stepSide s c d).refHold =
    (((stepWork s c d).lost || (s.grade.sides.get d).refHold) && (stepWork s c d).fused.depth.isNone) := rfl

theorem refHold_iff : (stepSide s c d).refHold = true ↔
    (stepWork s c d).lost = true ∨ (s.grade.sides.get d).refHold = true ∧ (stepSide s c d).reference = false := by
  have hnone : (stepWork s c d).fused.depth.isNone = true ↔ (stepSide s c d).reference = false :=
    Option.isSome_eq_false_iff.symm
  rw [stepSide_refHold, Bool.and_eq_true, Bool.or_eq_true, hnone, or_and_right]
  exact or_congr_left ⟨fun h => h.1, fun h => ⟨h, (stepLost_iff.mp h).2⟩⟩

theorem side_cases (r d : Side) : d = r ∨ d = r.other := by cases r <;> cases d <;> simp [Side.other]

theorem exists_side (r : Side) (p : Side → Prop) : (∃ d, p d) ↔ p r ∨ p r.other := by
  refine ⟨fun ⟨d, h⟩ => ?_, fun h => h.elim (⟨_, ·⟩) (⟨_, ·⟩)⟩
  rcases side_cases r d with rfl | rfl
  · exact .inl h
  · exact .inr h

theorem sideHands_handed {x : Instr} (h : ∀ id e m b, x ≠ .breachMark id e m b) (hl : ∀ e u, x ≠ .legCommand e u)
    (hadd : ∀ n, x ≠ .reasonAdd .ramp n) (hw : x ≠ .reasonWithdraw .ramp) (hr : ∀ r, x ≠ .cutReport r) :
    x ∈ (controlStep s c).handed ↔
      x ∈ s.handed ∨ x ∈ sideHands s c s.setup.geometry.refSide s.setup.geometry.refSide.other := by
  simp [mem_controlStep_handed, mem_breachHands, mem_commandHands, mem_rampHands, h, hl, hadd, hw, hr]

theorem referenceLost_handed : .referenceLostRequest d ∈ (controlStep s c).handed ↔
    .referenceLostRequest d ∈ s.handed ∨ (stepWork s c d).lost = true := by
  rw [sideHands_handed (by nofun) (by nofun) (by nofun) (by nofun) (by nofun)]
  refine or_congr_right ?_
  simp only [sideHands, List.mem_append, mem_lossHands, mem_returnHands]
  generalize s.setup.geometry.refSide = r
  cases r <;> cases d <;> simp [Side.other]

theorem noTarget_handed : .noTargetRequest d ∈ (controlStep s c).handed ↔ .noTargetRequest d ∈ s.handed ∨
    (legOf s d).mode = .auto ∧ (stepSide s c d).reference = true ∧ (stepSide s c d).target = none := by
  have hauto (e : Side) : (stepWork s c e).auto = true ↔ (legOf s e).mode = .auto := beq_iff_eq
  rw [sideHands_handed (by nofun) (by nofun) (by nofun) (by nofun) (by nofun)]
  refine or_congr_right ?_
  simp only [sideHands, List.mem_append, mem_lossHands, mem_returnHands]
  change _ ↔ _ ∧ (stepWork s c d).fused.depth.isSome = true ∧ (stepWork s c d).target = none
  rw [← hauto]
  generalize s.setup.geometry.refSide = r
  cases r <;> cases d <;> simp [Side.other]

/-- REFERENCE is added with the first mark (R102). -/
theorem referenceAdd_handed (hhold : ∀ d, (s.grade.sides.get d).refHold = false)
    (hlost : ∃ d, (stepWork s c d).lost = true) : .reasonAdd .reference 0 ∈ (controlStep s c).handed := by
  rw [sideHands_handed (by nofun) (by nofun) (by nofun) (by nofun) (by nofun)]
  right
  rw [exists_side s.setup.geometry.refSide] at hlost
  simp only [sideHands, List.mem_append, mem_lossHands, mem_returnHands, hhold, Bool.or_false]
  cases hr : (stepWork s c s.setup.geometry.refSide).lost with
  | true => simp
  | false => simpa [hr] using hlost

/-- REFERENCE is withdrawn with the last mark (R103). -/
theorem referenceWithdraw_handed (hhold : ∃ d, (s.grade.sides.get d).refHold = true)
    (hclear : ∀ d, (stepSide s c d).refHold = false) : .reasonWithdraw .reference ∈ (controlStep s c).handed := by
  rw [sideHands_handed (by nofun) (by nofun) (by nofun) (by nofun) (by nofun)]
  right
  have hreturned (d : Side) (h : ((stepWork s c d).lost || (s.grade.sides.get d).refHold) = true) :
      (stepWork s c d).fused.depth.isSome = true := by
    have hc := hclear d
    rw [stepSide_refHold, h, Bool.true_and] at hc
    exact Option.isNone_eq_false_iff.mp hc
  have hnotLost (d : Side) : (stepWork s c d).lost = false := by
    have hc := hclear d
    rw [← Bool.not_eq_true, refHold_iff, not_or, Bool.not_eq_true] at hc
    exact hc.1
  rw [exists_side s.setup.geometry.refSide] at hhold
  have hr := hclear s.setup.geometry.refSide
  rw [stepSide_refHold] at hr
  simp only [sideHands, List.mem_append, mem_lossHands, mem_returnHands, hr]
  cases hf : (s.grade.sides.get s.setup.geometry.refSide.other).refHold with
  | true =>
    have hsome := hreturned s.setup.geometry.refSide.other (by rw [hf, Bool.or_true])
    simp [hsome]
  | false =>
    have hself := hhold.resolve_right (by simp [hf])
    have hsome := hreturned s.setup.geometry.refSide (by rw [hself, Bool.or_true])
    simp [hsome, hself, hnotLost]

theorem lossPosts_eq (x : Nat) (w : SideWork) (cause : LostCause) : lossPosts x d w cause =
    if w.lost = true then [⟨.referenceLost, x, .referenceLost d cause⟩] else [] := by
  unfold lossPosts SideWork.lost
  simp only [Bool.and_eq_true, Option.isNone_iff_eq_none]

theorem referenceLost_latched : (controlStep s c).notices.latched.referenceLost = true ↔
    s.notices.latched.referenceLost = true ∨ ∃ d, (stepWork s c d).lost = true := by
  refine (controlStep_latched s c .referenceLost).trans (or_congr_right ⟨?_, ?_⟩)
  · rintro ⟨p, hp, hcls⟩
    rcases mem_stepPosts.mp hp with hp | hp | hp | hp | hp | hp
    · exact nomatch (switchPosts_cls hp).symm.trans hcls
    · exact nomatch (switchPosts_cls hp).symm.trans hcls
    · exact nomatch (unsampledPosts_cls hp).symm.trans hcls
    · rw [lossPosts_eq] at hp
      split at hp
      · exact ⟨_, ‹_›⟩
      · exact nomatch hp
    · rw [lossPosts_eq] at hp
      split at hp
      · exact ⟨_, ‹_›⟩
      · exact nomatch hp
    · exact nomatch (rampOccurs_cls hp).symm.trans hcls
  · intro h
    rw [exists_side s.setup.geometry.refSide] at h
    have hmem (e : Side) (he : (stepWork s c e).lost = true) :
        (⟨.referenceLost, c.station, .referenceLost e (lostCause s.setup.geometry c e)⟩ : Occurrence) ∈
          lossPosts c.station e (stepWork s c e) (lostCause s.setup.geometry c e) := by
      rw [lossPosts_eq, if_pos he]
      exact List.mem_singleton_self _
    rcases h with h | h
    · exact ⟨_, mem_stepPosts.mpr (.inr (.inr (.inr (.inl (hmem _ h))))), rfl⟩
    · exact ⟨_, mem_stepPosts.mpr (.inr (.inr (.inr (.inr (.inl (hmem _ h)))))), rfl⟩

/-- The one side lost leaves its notice behind a frame on the line (R102). -/
theorem referenceLost_pending (hlost : (stepWork s c d).lost = true) (hother : (stepWork s c d.other).lost = false)
    (hb : s.link.tx ≠ .idle) (hl : s.setup.levels.referenceLost < 3) :
    ∃ n, (controlStep s c).notices.pending.referenceLost = some n ∧ n.station = c.station ∧
      n.detail = .referenceLost d (lostCause s.setup.geometry c d) := by
  have hposted := controlStep_posts s c
  have hone : lossPosts c.station s.setup.geometry.refSide (stepWork s c s.setup.geometry.refSide)
        (lostCause s.setup.geometry c s.setup.geometry.refSide) ++
      lossPosts c.station s.setup.geometry.refSide.other (stepWork s c s.setup.geometry.refSide.other)
        (lostCause s.setup.geometry c s.setup.geometry.refSide.other) =
      [⟨.referenceLost, c.station, .referenceLost d (lostCause s.setup.geometry c d)⟩] := by
    rw [lossPosts_eq, lossPosts_eq]
    rcases side_cases s.setup.geometry.refSide d with hd | hd
    · rw [← hd, hlost, hother]
      rfl
    · have hback : d.other = s.setup.geometry.refSide := by rw [hd]; cases s.setup.geometry.refSide <;> rfl
      rw [← hd, ← hback, hlost, hother]
      rfl
  unfold stepPosts at hposted
  rw [hone, List.append_assoc, List.singleton_append] at hposted
  have hlast := hposted.busy_pending_last hb hl fun o ho hcls => nomatch (rampOccurs_cls ho).symm.trans hcls
  exact ⟨_, hlast, rfl, rfl⟩

theorem lostCause_eq : lostCause s.setup.geometry c d =
    if d ≠ s.setup.geometry.refSide ∧ s.setup.geometry.farMode = .slope then
      if (stepSide s c s.setup.geometry.refSide).reference = false then .noReferenceSide else .noSlope
    else if s.setup.geometry.refMode = .slope ∧ d = s.setup.geometry.refSide then .noReferenceSide
    else .noChannel := by
  have hreference : (stepSide s c s.setup.geometry.refSide).reference =
      (fuseReference s.setup.geometry c).depth.isSome := congrArg (fun f => Option.isSome (Fused.depth f)) (if_pos rfl)
  unfold lostCause sideMode
  rw [hreference]
  by_cases hd : d = s.setup.geometry.refSide
  · simp only [hd, ne_eq, not_true_eq_false, false_and, if_false, if_true, and_true]
    cases hmode : s.setup.geometry.refMode with
    | slope =>
      have hnone : (fuseReference s.setup.geometry c).depth = none := by
        unfold fuseReference
        rw [hmode]
        rfl
      simp [hnone]
    | _ => simp
  · simp only [hd, ne_eq, not_false_eq_true, true_and, if_false, and_false]
    cases s.setup.geometry.farMode with
    | slope => cases (fuseReference s.setup.geometry c).depth <;> simp
    | _ => simp

end

/-! ## The approach and RAMP -/

section
variable {s : State} {c : Completion}

/-- The approach Q of a side at a step (R79, R106): that of the entries in approach for it, in AUTO with a reference. -/
theorem stepApproach_eq {d : Side} {q : Option Nat} {near : Obstacle → Prop}
    (hnear : ∀ o, near o ↔ o ∈ s.obstacles ∧ (legOf s d).mode = .auto ∧ (stepSide s c d).reference = true ∧
      o.approaches d c.speed c.station (stepSide s c d).target)
    (hnone : q = none ↔ ∀ o, ¬near o)
    (hsome : ∀ n, q = some n → (∃ o, near o ∧ o.q = n) ∧ ∀ o, near o → o.q ≤ n) : (stepWork s c d).approach = q := by
  have happroach : (stepWork s c d).approach =
      if controlled ((legOf s d).mode == .auto) (stepWork s c d).fused.depth (stepSide s c d).target then
        approachQ s.obstacles d (stepQuestion s c) else none := by
    rw [← stepAnswer_approach]
    rfl
  have hcontrolled : controlled ((legOf s d).mode == .auto) (stepWork s c d).fused.depth (stepSide s c d).target = true ↔
      (legOf s d).mode = .auto ∧ (stepSide s c d).reference = true ∧ (stepSide s c d).target ≠ none := by
    rw [controlled, Bool.and_eq_true, Bool.and_eq_true, beq_iff_eq, and_assoc, Option.isSome_iff_ne_none (o := (stepSide s c d).target)]
    rfl
  rw [happroach]
  cases hq : q with
  | none =>
    have hall := hnone.mp hq
    split
    · next h =>
      obtain ⟨hauto, href, -⟩ := hcontrolled.mp h
      refine approachQ_none.mpr fun o ho hn => hall o ((hnear o).mpr ⟨ho, hauto, href, ?_⟩)
      rw [stepQuestion_target] at hn
      exact hn
    · rfl
  | some n =>
    obtain ⟨⟨o, ho, rfl⟩, hmax⟩ := hsome n hq
    obtain ⟨hmem, hauto, href, happ⟩ := (hnear o).mp ho
    have htarget : (stepSide s c d).target ≠ none := by
      obtain ⟨-, -, -, T, hT, -⟩ := happ
      rw [hT]
      nofun
    rw [if_pos (hcontrolled.mpr ⟨hauto, href, htarget⟩), approachQ_some, stepQuestion_target]
    exact ⟨⟨o, hmem, happ, rfl⟩, fun p hp hpn => hmax p ((hnear p).mpr ⟨hp, hauto, href, hpn⟩)⟩

theorem stepCap_least {p : Setup} {q : Sides (Option Nat)} {cap : Side → Nat} {least : Nat}
    (hcap : ∀ d n, q.get d = some n → cap d = max 1 ((p.legs.get d).rate / n))
    (hex : ∃ d, (q.get d).isSome ∧ cap d = least) (hall : ∀ d, (q.get d).isSome → least ≤ cap d) :
    stepCap p q = some least := by
  obtain ⟨l, r⟩ := q
  rw [exists_side .left] at hex
  have hl := hall .left
  have hr := hall .right
  have hcl := hcap .left
  have hcr := hcap .right
  simp only [Sides.get, Side.other] at hex hl hr hcl hcr
  unfold stepCap rampCap
  cases l with
  | none =>
    cases r with
    | none => simp at hex
    | some b =>
      simp only [← hcr b rfl]
      simpa using hex
  | some a =>
    cases r with
    | none =>
      simp only [← hcl a rfl]
      simpa using hex
    | some b =>
      simp only [← hcl a rfl, ← hcr b rfl, Option.some_inj]
      have hl' := hl rfl
      have hr' := hr rfl
      simp only [Option.isSome_some, true_and] at hex
      omega

theorem stepCap_none {p : Setup} {q : Sides (Option Nat)} (hl : q.left = none) (hr : q.right = none) :
    stepCap p q = none := by
  unfold stepCap
  rw [hl, hr]

theorem rampAdd_handed {n : Nat} (h : stepRamp s c = some n) : .reasonAdd .ramp n ∈ (controlStep s c).handed :=
  mem_controlStep_handed.mpr (.inr (.inr (.inr (.inr (.inl (mem_rampHands.mpr (.inl ⟨n, h, rfl⟩)))))))

theorem rampWithdraw_handed (h : stepRamp s c = none) (hheld : s.grade.ramp ≠ none) :
    .reasonWithdraw .ramp ∈ (controlStep s c).handed :=
  mem_controlStep_handed.mpr (.inr (.inr (.inr (.inr (.inl (mem_rampHands.mpr
    (.inr ⟨h, Option.isSome_iff_ne_none.mpr hheld, rfl⟩)))))))

theorem rampLimited_latched : (controlStep s c).notices.latched.rampLimited = true ↔
    s.notices.latched.rampLimited = true ∨ rampOccurs c.station (stepRamp s c) s.grade.ramp
      ⟨(stepWork s c .left).approach, (stepWork s c .right).approach⟩ ≠ [] := by
  refine (controlStep_latched s c .rampLimited).trans (or_congr_right ⟨?_, fun h => ?_⟩)
  · rintro ⟨p, hp, hcls⟩
    rcases mem_stepPosts.mp hp with hp | hp | hp | hp | hp | hp
    · exact nomatch (switchPosts_cls hp).symm.trans hcls
    · exact nomatch (switchPosts_cls hp).symm.trans hcls
    · exact nomatch (unsampledPosts_cls hp).symm.trans hcls
    · exact nomatch (lossPosts_cls hp).symm.trans hcls
    · exact nomatch (lossPosts_cls hp).symm.trans hcls
    · exact List.ne_nil_of_mem hp
  · obtain ⟨o, ho⟩ := List.exists_mem_of_ne_nil _ h
    exact ⟨o, mem_stepPosts.mpr (.inr (.inr (.inr (.inr (.inr ho))))), rampOccurs_cls ho⟩

theorem rampLimited_kept (h : stepRamp s c = none ∨ s.grade.ramp ≠ none) :
    (controlStep s c).notices.latched.rampLimited = s.notices.latched.rampLimited := by
  rw [Bool.eq_iff_iff, rampLimited_latched]
  refine or_iff_left fun hne => hne ?_
  unfold rampOccurs
  rcases h with h | h
  · rw [h]
  · rw [Option.isSome_iff_ne_none.mpr h]
    cases stepRamp s c <;> rfl

theorem rampOccurs_added {x n : Nat} {q : Sides (Option Nat)} :
    rampOccurs x (some n) none q = [⟨.rampLimited, x, .rampLimited q n⟩] := rfl

theorem rampLimited_pending {n : Nat} (h : stepRamp s c = some n) (hheld : s.grade.ramp = none)
    (hb : s.link.tx ≠ .idle) (hl : s.setup.levels.rampLimited < 3) :
    ∃ k, (controlStep s c).notices.pending.rampLimited = some k ∧ k.station = c.station ∧
      k.detail = .rampLimited ⟨(stepWork s c .left).approach, (stepWork s c .right).approach⟩ n := by
  have hposted := controlStep_posts s c
  unfold stepPosts at hposted
  rw [h, hheld, rampOccurs_added] at hposted
  have hlast := hposted.busy_pending_last hb hl nofun
  exact ⟨_, hlast, rfl, rfl⟩

end

/-! ## The reports -/

theorem takeLeftAuto_eq (s : State) (d : Side) : takeLeftAuto s d =
    { s with
      grade := { s.grade with
        sides := s.grade.sides.set d { s.grade.sides.get d with approach := false },
        ramp := if (s.grade.sides.get d.other).approach then s.grade.ramp else none },
      handed := s.handed ++
        if (s.grade.sides.get d.other).approach = false ∧ s.grade.ramp.isSome then [.reasonWithdraw .ramp] else [] } := by
  unfold takeLeftAuto
  simp only
  by_cases hlast : (s.grade.sides.get d.other).approach = false ∧ s.grade.ramp.isSome = true
  · rw [if_pos hlast, if_pos hlast, if_neg (by simp [hlast.1])]
    rfl
  · have hkept : (if (s.grade.sides.get d.other).approach = true then s.grade.ramp else none) = s.grade.ramp := by
      cases ha : (s.grade.sides.get d.other).approach with
      | true => rfl
      | false =>
        have hnone : s.grade.ramp = none := by
          by_contra hne
          exact hlast ⟨ha, Option.isSome_iff_ne_none.mpr hne⟩
        rw [hnone]
        rfl
    rw [if_neg hlast, if_neg hlast, hkept, List.append_nil]
    rfl

theorem clearRefHold_eq (s : State) (d : Side) : clearRefHold s d =
    { s with
      grade := { s.grade with sides := s.grade.sides.set d { s.grade.sides.get d with refHold := false } },
      handed := s.handed ++
        if (s.grade.sides.get d).refHold = true ∧ (s.grade.sides.get d.other).refHold = false then
          [.reasonWithdraw .reference] else [] } := by
  have hgrade := clearRefHold_grade s d
  have hhanded := clearRefHold_handed s d
  obtain ⟨h1, h2, h3, h4, h5, h6, h7, h8, h9, h10, h11, h12, h13, h14⟩ := clearRefHold_frame s d
  generalize clearRefHold s d = t at *
  cases t
  cases s
  simp_all only
  rfl

/-- Settles O37: the marks at a step, by the sides without a reference and the entries in approach; and their
clearing. -/
theorem gradeReportsTaken : Obligations.GradeReportsTaken := by
  unfold Obligations.GradeReportsTaken
  refine ⟨?_, ?_, fun s d g hg => ⟨?_, ?_, rfl⟩⟩
  · rintro s t c lost rfl hlost
    simp only [controlStep_side] at hlost ⊢
    have hwork (d : Side) : lost d ↔ (stepWork s c d).lost = true := (hlost d).trans stepLost_iff.symm
    simp only [hwork]
    refine ⟨fun d => ⟨referenceLost_handed, noTarget_handed, refHold_iff⟩, referenceLost_latched, referenceAdd_handed,
      referenceWithdraw_handed, fun d hd hother hb hl => ?_⟩
    rw [← lostCause_eq]
    exact referenceLost_pending hd (Bool.not_eq_true _ ▸ hother) hb hl
  · rintro s t c near q cap rfl hnear hnone hsome hcap
    simp only [controlStep_side] at hnear ⊢
    have happroach (d : Side) : (stepWork s c d).approach = q.get d :=
      stepApproach_eq (hnear d) (hnone d) (hsome d)
    have hq : (Sides.mk (stepWork s c .left).approach (stepWork s c .right).approach) = q := by
      rw [happroach, happroach]
      rfl
    have hramp : (controlStep s c).grade.ramp = stepCap s.setup q := by
      rw [controlStep_grade, ← hq]
      rfl
    have hstep : stepRamp s c = stepCap s.setup q := by rw [← hq]; rfl
    refine ⟨fun d => congrArg Option.isSome (happroach d), fun least hex hall => ?_, fun hl hr => ?_⟩
    · have hleast := stepCap_least hcap hex hall
      rw [hleast] at hramp hstep
      refine ⟨hramp, rampAdd_handed hstep, fun hheld => ⟨rampLimited_latched.mpr (.inr ?_), fun hb hl => ?_⟩,
        fun hheld => rampLimited_kept (.inr hheld)⟩
      · rw [hstep, hheld, rampOccurs_added]
        nofun
      · obtain ⟨n, hn, hstation, hdetail⟩ := rampLimited_pending hstep hheld hb hl
        exact ⟨n, hn, hstation, hdetail.trans (by rw [hq])⟩
    · have hcapNone := stepCap_none (p := s.setup) hl hr
      rw [hcapNone] at hramp hstep
      exact ⟨hramp, rampLimited_kept (.inl hstep), rampWithdraw_handed hstep⟩
  · subst hg
    exact congrArg Host.Outcome.next (takeLeftAuto_eq (takeHanded s (.leftAutoReport d)) d)
  · subst hg
    exact congrArg Host.Outcome.next (clearRefHold_eq (takeHanded s (.leftHoldReport d)) d)

end Sys2Proof.Machine
end

section
/-! A switch sample: the filters of the six inputs, and a lone accepted change (R127, R143, R149, R153 to R156). -/

namespace Sys2Proof.Machine

open Sys2Proof

/-! ## The filters and the accepted changes -/

section
variable {closed : PerInput Bool} {fs : PerInput InputFilter} {k : SwitchInput}

theorem readsActive_eq (k : SwitchInput) (c : Bool) : readsActive k c = if k = .stopSense then !c else c := by
  cases k <;> rfl

theorem sampleInputs_get (fs : PerInput InputFilter) (closed : PerInput Bool) (k : SwitchInput) :
    (sampleInputs fs closed).get k = filtered fs closed k := by cases k <;> rfl

theorem filterSample_eq (f : InputFilter) (active : Bool) : (filterSample f active).1 =
    if 3 ≤ nextRun f active then { accepted := levelOfSample active, run := 0, last := some active }
    else { accepted := f.accepted, run := nextRun f active, last := some active } := by
  unfold filterSample
  simp only
  split <;> rfl

theorem changeOf_none (h : nextRun (fs.get k) (readsActive k (closed.get k)) < 3) : changeOf fs closed k = none := by
  unfold changeOf filterSample
  simp only [if_neg (Nat.not_le.mpr h)]
  rfl

theorem changeOf_some (h : 3 ≤ nextRun (fs.get k) (readsActive k (closed.get k))) : changeOf fs closed k =
    some { input := k, active := readsActive k (closed.get k), wasActive := (fs.get k).accepted == .active } := by
  unfold changeOf filterSample
  simp only [if_pos h]
  rfl

theorem acceptedChanges_none (h : ∀ k, changeOf fs closed k = none) : acceptedChanges fs closed = [] :=
  List.filterMap_eq_nil_iff.mpr fun k _ => h k

theorem acceptedChanges_one {c : InputChange} (hk : changeOf fs closed k = some c)
    (h : ∀ j, j ≠ k → changeOf fs closed j = none) : acceptedChanges fs closed = [c] := by
  unfold acceptedChanges SwitchInput.all
  cases k <;> simp [hk, h]

end

theorem takeChanges_one (s : State) (c : InputChange) : takeChanges s [c] = takeChange s c := by
  unfold takeChanges
  cases h : c.posts <;> simp [h]

/-- What the changes of a sample leave as they were. -/
structure SampleKept (s t : State) : Prop where
  travel : t.travel = s.travel
  scanner : t.scanner = s.scanner
  program : t.program = s.program
  obstacles : t.obstacles = s.obstacles
  grade : t.grade = s.grade
  advance : t.advance = s.advance
  inputs : t.inputs = s.inputs
  supply : t.supply = s.supply
  store : t.store = s.store

theorem SampleKept.refl (s : State) : SampleKept s s := ⟨rfl, rfl, rfl, rfl, rfl, rfl, rfl, rfl, rfl⟩

theorem SampleKept.trans {s t u : State} (h : SampleKept s t) (k : SampleKept t u) : SampleKept s u :=
  ⟨k.travel.trans h.travel, k.scanner.trans h.scanner, k.program.trans h.program, k.obstacles.trans h.obstacles,
    k.grade.trans h.grade, k.advance.trans h.advance, k.inputs.trans h.inputs, k.supply.trans h.supply,
    k.store.trans h.store⟩

theorem SampleKept.takeChange (s : State) (c : InputChange) : SampleKept s (takeChange s c) := by
  obtain ⟨h1, h2, h3, h4, h5, h6, h7, h8, h9, -⟩ := takeChange_frame s c
  exact ⟨h1, h2, h3, h4, h5, h6, h7, h8, h9⟩

theorem SampleKept.foldl (l : List InputChange) (s : State) : SampleKept s (l.foldl Machine.takeChange s) := by
  induction l generalizing s with
  | nil => exact .refl s
  | cons c l ih => exact (SampleKept.takeChange s c).trans (ih _)

theorem SampleKept.takeChanges (s : State) (l : List InputChange) : SampleKept s (takeChanges s l) := by
  have hquiet := SampleKept.foldl (l.filter fun c => !c.posts) s
  unfold Machine.takeChanges
  simp only
  generalize (l.filter fun c => !c.posts).foldl Machine.takeChange s = t at hquiet ⊢
  split
  · have hcount : SampleKept t (t.setFreeCount (s.freeCount + 1)) := ⟨rfl, rfl, rfl, rfl, rfl, rfl, rfl, rfl, rfl⟩
    exact (hquiet.trans hcount).trans (SampleKept.foldl _ _)
  · exact hquiet.trans (SampleKept.foldl _ _)

/-- The belt of STOP stands (R133). -/
theorem BeltFollows.command_stop {p : ConveyorSetup} {c : Conveyor} (h : BeltFollows p c) (hm : c.mode = .stop) :
    c.command = 0 := by
  rcases h.overridden_or with h0 | ⟨hb, hs, hl⟩
  · exact h0
  · exact (h.table hb hs hl _ rfl).1 hm

/-! ## The stop sense -/

/-- The conveyor as the stop sense leaves it, before the belt follows (R155). -/
def Conveyor.stoppedBySense (c : Conveyor) : Conveyor := { c with stopSense := true, mode := .stop }

theorem stopSenseActive_eq (s : State) : stopSenseActive s =
    post (hand ((legsStopSense s).setConveyor (s.conveyor.stoppedBySense.evaluated s.setup.conveyor))
      (.reasonAdd .stopSense 0)) .stopSense .stopSense := by
  have hconveyor : (legsStopSense s).conveyor = s.conveyor := by simp [legsStopSense]
  have hsetup : (legsStopSense s).setup = s.setup := setup_of_store (by simp [legsStopSense])
  unfold stopSenseActive
  simp only [evaluateBelt_eq, setConveyor_setup, hconveyor, hsetup, State.setConveyor_conveyor]
  rfl

theorem legOf_legsStopSense (s : State) (d : Side) : legOf (legsStopSense s) d = (legOf s d).restedIn .hold := by
  unfold legsStopSense
  cases d with
  | left =>
    rw [legOf_enterMode_ne _ _ (by nofun), legOf_enterMode_self]
    rfl
  | right =>
    rw [legOf_enterMode_self, legOf_enterMode_ne _ _ (by nofun)]
    rfl

theorem enterMode_stopSense (s : State) (d : Side) (m : LegMode) :
    (enterMode s d m).legs.stopSense = s.legs.stopSense := by
  rw [enterMode_eq]

theorem legsStopSense_stopSense (s : State) : (legsStopSense s).legs.stopSense = true := by
  unfold legsStopSense
  rw [enterMode_stopSense, enterMode_stopSense, State.setLegs_legs]

/-- The stop sense active (R155): the legs, the belt, the reason and the flag. -/
theorem stopSenseActive_fields (s : State) :
    (stopSenseActive s).legs = (legsStopSense s).legs ∧
      (stopSenseActive s).conveyor = s.conveyor.stoppedBySense.evaluated s.setup.conveyor ∧
      .reasonAdd .stopSense 0 ∈ (stopSenseActive s).handed ∧
      (stopSenseActive s).notices.latched.stopSense = true := by
  have hflag := (stopSenseActive_posted s).latched .stopSense
  simp only [List.any_cons, decide_true, Bool.true_or, Bool.or_true] at hflag
  refine ⟨?_, ?_, ?_, hflag⟩
  all_goals
    rw [stopSenseActive_eq, offLine_post]
    simp [hand]

theorem stopSenseRelease_eq (s : State) : stopSenseRelease s =
    { s with
      legs := { s.legs with stopSense := false },
      conveyor := ({ s.conveyor with stopSense := false } : Conveyor).evaluated s.setup.conveyor,
      handed := s.handed ++ [.reasonWithdraw .stopSense] } := rfl

/-! ## The limit switches -/

theorem towardLimit_eq (w : LimitSwitch) (u : Int) :
    towardLimit w u = decide (w = .upper ∧ u < 0 ∨ w = .lower ∧ 0 < u) := by
  cases w <;> simp [towardLimit]

/-- A leg with its output at 0 (R127). -/
def Leg.cut (l : Leg) (cut : Bool) : Leg := if cut then { l with output := 0, raiseCoil := 0, lowerCoil := 0 } else l

/-- A leg with the limit reached and its jog toward it ended (R127). -/
def Leg.atLimit (l : Leg) (w : LimitSwitch) : Leg := setLimit { l with jog := jogAtLimit w l.jog } w true

/-- The jog direction that a limit stops (R127). -/
def LimitSwitch.stops : LimitSwitch → JogDirection
  | .upper => .raise
  | .lower => .lower

theorem jogAtLimit_eq (w : LimitSwitch) (j : Option Jog) :
    jogAtLimit w j = if j.map Jog.dir = some w.stops then none else j := by
  cases j with
  | none => cases w <;> rfl
  | some j =>
    obtain ⟨dir, n, t⟩ := j
    cases dir <;> cases w <;> rfl

theorem cutAtLimit_eq (p : LegSetup) (l : Leg) (w : LimitSwitch) :
    cutAtLimit p l w = (l.cut (towardLimit w l.output)).atLimit w := by
  unfold cutAtLimit Leg.cut Leg.atLimit
  cases towardLimit w l.output with
  | false => rfl
  | true => cases w <;> rfl

theorem limitChange_reached {s : State} {d : Side} {w : LimitSwitch} (hs : LineInv s) : limitChange s d w true =
    State.occurred (setLeg s d (((legOf s d).cut (towardLimit w (legOf s d).output)).atLimit w)) .legLimit
      s.travel.station (.legLimit d w (legOf s d).mode (towardLimit w (legOf s d).output)) := by
  unfold limitChange
  simp only [if_true, cutAtLimit_eq]
  exact postAt_eq _ _ _ _ ⟨hs.1, hs.2.1, hs.2.2⟩

theorem limitChange_released (s : State) (d : Side) (w : LimitSwitch) :
    limitChange s d w false = setLeg s d (setLimit (legOf s d) w false) := rfl

/-! ## The truck presence -/

/-- The conveyor with a truck arrived (R143). -/
def Conveyor.arrived (c : Conveyor) (settle : Nat) : Conveyor :=
  { c with truck := .settling, settleTimer := some (settle * 1000), lamp := .off, lampLit := false }

/-- The conveyor with a truck that backed out while it settled (R143). -/
def Conveyor.backedOut (c : Conveyor) : Conveyor := { c with truck := .noTruck, settleTimer := none }

theorem presenceChange_arrives {s : State} (h : s.conveyor.truck = .noTruck) : presenceChange s true =
    s.setConveyor ((s.conveyor.arrived s.setup.truck.settle).evaluated s.setup.conveyor) := by
  unfold presenceChange
  simp only [h]
  rfl

theorem presenceChange_backsOut {s : State} (h : s.conveyor.truck = .settling) : presenceChange s false =
    s.setConveyor (s.conveyor.backedOut.evaluated s.setup.conveyor) := by
  unfold presenceChange
  simp only [h]
  rfl

theorem presenceChange_none {s : State} {active : Bool} (h : active = true ∧ s.conveyor.truck ≠ .noTruck ∨
    active = false ∧ s.conveyor.truck = .noTruck) : presenceChange s active = s := by
  unfold presenceChange
  rcases h with ⟨rfl, h⟩ | ⟨rfl, h⟩
  · cases hc : s.conveyor.truck with
    | noTruck => exact absurd hc h
    | _ => simp only [hc]
  · simp only [h]

/-- The truck log with one more record, the oldest lost at 32 (R149). -/
theorem appendRecord_eq (log : List TruckRecord) (r : TruckRecord) : appendRecord log r =
    (if 32 ≤ log.length then log.drop 1 else log) ++ [{ r with loss := decide (32 ≤ log.length) }] := by
  unfold appendRecord
  by_cases h : 32 ≤ log.length <;> simp [h]

/-- The conveyor with its current truck gone and recorded (R149). -/
def Conveyor.departed (c : Conveyor) (r : TruckRecord) : Conveyor :=
  { c with
    truck := .noTruck, current := none, lamp := .off, lampLit := false, flashTimer := false,
    log := (if 32 ≤ c.log.length then c.log.drop 1 else c.log) ++ [{ r with loss := decide (32 ≤ c.log.length) }] }

theorem presenceChange_leaves {s : State} {k : Truck} {reason : EndReason} (hk : s.conveyor.current = some k)
    (h : (s.conveyor.truck = .loading ∨ s.conveyor.truck = .topOff) ∧ reason = .early ∨
      s.conveyor.truck = .full ∧ k.endReason = some reason) : presenceChange s false =
    evaluateBelt (post (s.setConveyor (s.conveyor.departed (truckRecord k s.travel.station reason false))) .truckComplete
      (.truckComplete k.number reason (truckRecord k s.travel.station reason false).litres)) := by
  have hend : presenceChange s false = endTruck s k := by
    unfold presenceChange
    rcases h with ⟨h | h, -⟩ | ⟨h, -⟩ <;> simp only [h, hk]
  have hreason : (if s.conveyor.truck = .full then k.endReason.getD .full else .early) = reason := by
    rcases h with ⟨h | h, rfl⟩ | ⟨h, hr⟩
    · rw [h]
      rfl
    · rw [h]
      rfl
    · rw [if_pos h, hr]
      rfl
  rw [hend]
  unfold endTruck Conveyor.departed
  simp only [hreason, appendRecord_eq]

theorem deliveredLitres_eq (v : Nat) : deliveredLitres v = min 65535 (v / 1000000) := by
  unfold deliveredLitres litres
  split <;> omega

theorem truckRecord_eq (k : Truck) (x : Nat) (reason : EndReason) (loss : Bool) : truckRecord k x reason loss =
    { number := k.number, arrival := k.arrival, departure := x, litres := min 65535 (k.delivered / 1000000),
      remainder := if k.delivered / 1000000 ≤ 65535 then k.delivered % 1000000 else 999999,
      endReason := reason, loss := loss } := by
  rw [← deliveredLitres_eq]
  rfl

/-- The state that a departed truck leaves (R149). -/
theorem truckLeft_state {s u : State} {c d : Conveyor} {p : ConveyorSetup} {x : Nat} {detail : NoticeDetail}
    (hs : LineInv s) (hu : u = s.setConveyor c) (hp : s.setup.conveyor = p) (hx : s.travel.station = x)
    (hd : c.evaluated p = d) : evaluateBelt (post u .truckComplete detail) =
      { State.occurred s .truckComplete x detail with conveyor := d } := by
  have hline : LineInv u := by
    subst hu
    exact ⟨hs.1, hs.2.1, hs.2.2⟩
  have hpost : post u .truckComplete detail = State.occurred u .truckComplete u.travel.station detail :=
    postAt_eq _ _ _ _ hline
  subst hu hp hx hd
  rw [hpost]
  rfl

/-- What the conveyor holds of an arrived truck (R143). -/
theorem arrived_state {s t : State} {fs : PerInput InputFilter}
    (h : t = ({ s with inputs := fs } : State).setConveyor
      ((s.conveyor.arrived s.setup.truck.settle).evaluated s.setup.conveyor)) :
    t = { s with inputs := fs, conveyor := t.conveyor } ∧ t.conveyor.truck = .settling ∧
      t.conveyor.settleTimer = some (s.setup.truck.settle * 1000) ∧ t.conveyor.lamp = .off ∧
      t.conveyor.current = s.conveyor.current ∧ t.conveyor.log = s.conveyor.log ∧
      t.conveyor.housing = s.conveyor.housing ∧ t.conveyor.mode = s.conveyor.mode ∧
      BeltFollows s.setup.conveyor t.conveyor := by
  have hfollows := evaluated_follows s.setup.conveyor (s.conveyor.arrived s.setup.truck.settle)
  have hv := (SameVolumes.refl (s.conveyor.arrived s.setup.truck.settle)).evaluated s.setup.conveyor
  have htruck := SameTruck.evaluated s.setup.conveyor (s.conveyor.arrived s.setup.truck.settle)
  generalize (s.conveyor.arrived s.setup.truck.settle).evaluated s.setup.conveyor = d at *
  subst h
  exact ⟨rfl, htruck.truck, hv.settleTimer, htruck.lamp, htruck.current, hv.log, hv.housing, hv.mode, hfollows⟩

/-- What the conveyor holds of a truck that backed out (R143). -/
theorem backedOut_state {s t : State} {fs : PerInput InputFilter}
    (h : t = ({ s with inputs := fs } : State).setConveyor (s.conveyor.backedOut.evaluated s.setup.conveyor)) :
    t = { s with inputs := fs, conveyor := t.conveyor } ∧ t.conveyor.truck = .noTruck ∧
      t.conveyor.settleTimer = none ∧ t.conveyor.current = s.conveyor.current ∧
      t.conveyor.nextNumber = s.conveyor.nextNumber ∧ t.conveyor.log = s.conveyor.log ∧
      BeltFollows s.setup.conveyor t.conveyor := by
  have hfollows := evaluated_follows s.setup.conveyor s.conveyor.backedOut
  have hv := (SameVolumes.refl s.conveyor.backedOut).evaluated s.setup.conveyor
  have htruck := SameTruck.evaluated s.setup.conveyor s.conveyor.backedOut
  generalize s.conveyor.backedOut.evaluated s.setup.conveyor = d at *
  subst h
  exact ⟨rfl, htruck.truck, hv.settleTimer, htruck.current, hv.nextNumber, hv.log, hfollows⟩

/-- What a departed truck leaves of the conveyor (R149). -/
structure TruckLeft (s : State) (k : Truck) (reason : EndReason) (litres : Nat) (d : Conveyor) : Prop where
  truck : d.truck = .noTruck
  current : d.current = none
  lamp : d.lamp = .off
  flashTimer : d.flashTimer = false
  hornTimer : d.hornTimer = s.conveyor.hornTimer
  nextNumber : d.nextNumber = s.conveyor.nextNumber
  housing : d.housing = s.conveyor.housing
  command : s.conveyor.mode = .auto → d.command = 0
  follows : BeltFollows s.setup.conveyor d
  log : d.log = (if 32 ≤ s.conveyor.log.length then s.conveyor.log.drop 1 else s.conveyor.log) ++
    [{ number := k.number, arrival := k.arrival, departure := s.travel.station, litres := litres,
       remainder := if k.delivered / 1000000 ≤ 65535 then k.delivered % 1000000 else 999999,
       endReason := reason, loss := decide (32 ≤ s.conveyor.log.length) }]

theorem truckLeft_departed (s : State) (k : Truck) (reason : EndReason) :
    TruckLeft s k reason (min 65535 (k.delivered / 1000000))
      ((s.conveyor.departed (truckRecord k s.travel.station reason false)).evaluated s.setup.conveyor) := by
  generalize hc : s.conveyor.departed (truckRecord k s.travel.station reason false) = c
  have hfollows := evaluated_follows s.setup.conveyor c
  have hv := (SameVolumes.refl c).evaluated s.setup.conveyor
  have htruck := SameTruck.evaluated s.setup.conveyor c
  have hmode : c.mode = s.conveyor.mode := by rw [← hc]; rfl
  have hgone : c.truck = .noTruck := by rw [← hc]; rfl
  have hlog : c.log = (if 32 ≤ s.conveyor.log.length then s.conveyor.log.drop 1 else s.conveyor.log) ++
      [{ truckRecord k s.travel.station reason false with loss := decide (32 ≤ s.conveyor.log.length) }] := by
    rw [← hc]
    rfl
  rw [truckRecord_eq] at hlog
  generalize c.evaluated s.setup.conveyor = d at *
  have hnone := htruck.truck.trans hgone
  exact ⟨hnone, htruck.current.trans (by rw [← hc]; rfl), htruck.lamp.trans (by rw [← hc]; rfl),
    htruck.flashTimer.trans (by rw [← hc]; rfl), htruck.hornTimer.trans (by rw [← hc]; rfl),
    hv.nextNumber.trans (by rw [← hc]; rfl), hv.housing.trans (by rw [← hc]; rfl),
    fun hm => hfollows.command_resting (hv.mode.trans (hmode.trans hm)) (.inl hnone), hfollows, hv.log.trans hlog⟩

/-- The state that a departed truck leaves, with its notice (R149). -/
theorem departed_state {s t : State} {fs : PerInput InputFilter} {k : Truck} {reason : EndReason} {litres : Nat}
    (h : t = evaluateBelt (post (({ s with inputs := fs } : State).setConveyor
        (s.conveyor.departed (truckRecord k s.travel.station reason false))) .truckComplete
      (.truckComplete k.number reason (truckRecord k s.travel.station reason false).litres)))
    (hs : LineInv s) (hlitres : litres = min 65535 (k.delivered / 1000000)) :
    t = { State.occurred { s with inputs := fs } .truckComplete s.travel.station
        (.truckComplete k.number reason litres) with conveyor := t.conveyor } ∧
      t.conveyor.truck = .noTruck ∧ t.conveyor.current = none ∧ t.conveyor.lamp = .off ∧
      t.conveyor.flashTimer = false ∧ t.conveyor.hornTimer = s.conveyor.hornTimer ∧
      t.conveyor.nextNumber = s.conveyor.nextNumber ∧ t.conveyor.housing = s.conveyor.housing ∧
      (s.conveyor.mode = .auto → t.conveyor.command = 0) ∧ BeltFollows s.setup.conveyor t.conveyor ∧
      t.conveyor.log = (if 32 ≤ s.conveyor.log.length then s.conveyor.log.drop 1 else s.conveyor.log) ++
        [{ number := k.number, arrival := k.arrival, departure := s.travel.station, litres := litres,
           remainder := if k.delivered / 1000000 ≤ 65535 then k.delivered % 1000000 else 999999,
           endReason := reason, loss := decide (32 ≤ s.conveyor.log.length) }] := by
  have hleft := truckLeft_departed s k reason
  have hrecord : (truckRecord k s.travel.station reason false).litres = litres := by
    rw [truckRecord_eq]
    exact hlitres.symm
  rw [hrecord] at h
  rw [← hlitres] at hleft
  generalize s.conveyor.departed (truckRecord k s.travel.station reason false) = c at h hleft
  generalize hd : c.evaluated s.setup.conveyor = d at hleft
  have hstate := h.trans (truckLeft_state (s := { s with inputs := fs }) ⟨hs.1, hs.2.1, hs.2.2⟩ rfl rfl rfl hd)
  subst hstate
  exact ⟨rfl, hleft.truck, hleft.current, hleft.lamp, hleft.flashTimer, hleft.hornTimer, hleft.nextNumber, hleft.housing,
    hleft.command, hleft.follows, hleft.log⟩

/-! ## One sample -/

section
variable {closed : PerInput Bool} {s t : State} {n : SwitchInput → Nat} {active : SwitchInput → Bool}

theorem nextRun_eq {f : InputFilter} {a : Bool} :
    (f.accepted = .unknown → nextRun f a = if f.last = some a then f.run + 1 else 1) ∧
    (f.accepted = .active → nextRun f a = if a then 0 else f.run + 1) ∧
    (f.accepted = .inactive → nextRun f a = if a then f.run + 1 else 0) := by
  unfold nextRun
  refine ⟨fun h => ?_, fun h => ?_, fun h => ?_⟩
  · simp only [h]
  · simp only [h]
    cases a <;> rfl
  · simp only [h]
    cases a <;> rfl

/-- The change of a sample at which the input k alone is accepted, taken. -/
structure Lone (s t : State) (active : SwitchInput → Bool) (k : SwitchInput) : Prop where
  taken : t = takeChange { s with inputs := t.inputs }
    { input := k, active := active k, wasActive := (s.inputs.get k).accepted == .active }

theorem lone_of_sample (hreads : ∀ k, readsActive k (closed.get k) = active k)
    (hrun : ∀ k, nextRun (s.inputs.get k) (active k) = n k)
    (ht : t = takeChanges (s.setInputs (sampleInputs s.inputs closed)) (acceptedChanges s.inputs closed))
    {k : SwitchInput} (hk : 3 ≤ n k) (hj : ∀ j, j ≠ k → n j < 3) : Lone s t active k := by
  have hinputs : t.inputs = sampleInputs s.inputs closed := by
    rw [ht]
    exact (SampleKept.takeChanges _ _).inputs
  have hchange : changeOf s.inputs closed k =
      some { input := k, active := active k, wasActive := (s.inputs.get k).accepted == .active } := by
    rw [← hreads k]
    exact changeOf_some (by rw [hreads, hrun]; exact hk)
  have hone := acceptedChanges_one hchange fun j hne => changeOf_none (by rw [hreads, hrun]; exact hj j hne)
  refine ⟨?_⟩
  rw [hinputs, ht, hone, takeChanges_one]
  rfl

/-- The stop sense loop opens (R155). -/
theorem Lone.stopSense (h : Lone s t active .stopSense) (ha : active .stopSense = true) :
    t.legs.stopSense = true ∧ t.conveyor.stopSense = true ∧ t.conveyor.mode = .stop ∧
      t.conveyor.command = 0 ∧ t.conveyor.coil = 0 ∧ .reasonAdd .stopSense 0 ∈ t.handed ∧
      t.notices.latched.stopSense = true ∧ BeltFollows s.setup.conveyor t.conveyor ∧
      ∀ d, legOf t d = (legOf s d).restedIn .hold := by
  have htaken := h.taken
  rw [ha] at htaken
  generalize hu : ({ s with inputs := t.inputs } : State) = u at htaken
  have hconveyor : u.conveyor = s.conveyor := by rw [← hu]
  have hsetup : u.setup = s.setup := by rw [← hu]; rfl
  have hlegs : u.legs = s.legs := by rw [← hu]
  clear hu
  have ht : t = stopSenseActive u := htaken
  obtain ⟨hlegs', hconveyor', hhanded, hlatched⟩ := stopSenseActive_fields u
  rw [← ht, hconveyor, hsetup] at hconveyor'
  rw [← ht] at hlegs' hhanded hlatched
  have hfollows := evaluated_follows s.setup.conveyor s.conveyor.stoppedBySense
  have hv := (SameVolumes.refl s.conveyor.stoppedBySense).evaluated s.setup.conveyor
  have hsense : (s.conveyor.stoppedBySense.evaluated s.setup.conveyor).stopSense = true := rfl
  rw [← hconveyor'] at hfollows hv hsense
  have hcommand : t.conveyor.command = 0 := hfollows.overridden (.inr (.inr hsense))
  refine ⟨?_, hsense, hv.mode, hcommand, ?_, hhanded, hlatched, hfollows, fun d => ?_⟩
  · rw [hlegs', legsStopSense_stopSense]
  · rw [hfollows.current, if_pos hcommand]
  · have hleg := legOf_legsStopSense u d
    unfold legOf at hleg ⊢
    rw [hlegs', hleg, hlegs]

/-- The stop sense loop is closed again, or found closed (R156). -/
theorem Lone.stopRelease (h : Lone s t active .stopSense) (ha : active .stopSense = false) :
    ((s.inputs.get .stopSense).accepted ≠ .active → t = { s with inputs := t.inputs }) ∧
    ((s.inputs.get .stopSense).accepted = .active →
      t = { s with
        inputs := t.inputs, legs := { s.legs with stopSense := false }, conveyor := t.conveyor,
        handed := s.handed ++ [.reasonWithdraw .stopSense] } ∧
      t.conveyor.stopSense = false ∧ t.conveyor.mode = s.conveyor.mode ∧
      t.conveyor.truck = s.conveyor.truck ∧ t.conveyor.housing = s.conveyor.housing ∧
      (s.conveyor.mode = .stop → t.conveyor.command = 0) ∧ BeltFollows s.setup.conveyor t.conveyor) := by
  have htaken := h.taken
  rw [ha] at htaken
  generalize t.inputs = fs at htaken ⊢
  refine ⟨fun hwas => ?_, fun hwas => ?_⟩
  · have hnot : ((s.inputs.get .stopSense).accepted == .active) = false := beq_eq_false_iff_ne.mpr hwas
    rw [hnot] at htaken
    exact htaken
  · have hyes : ((s.inputs.get .stopSense).accepted == .active) = true := beq_iff_eq.mpr hwas
    rw [hyes] at htaken
    have ht : t = stopSenseRelease { s with inputs := fs } := htaken
    rw [stopSenseRelease_eq] at ht
    have hfollows := evaluated_follows s.setup.conveyor { s.conveyor with stopSense := false }
    have hv := (SameVolumes.refl { s.conveyor with stopSense := false }).evaluated s.setup.conveyor
    have htruck := SameTruck.evaluated s.setup.conveyor { s.conveyor with stopSense := false }
    have hsense : (({ s.conveyor with stopSense := false } : Conveyor).evaluated s.setup.conveyor).stopSense = false :=
      rfl
    rw [show ({ s with inputs := fs } : State).setup = s.setup from rfl] at ht
    generalize ({ s.conveyor with stopSense := false } : Conveyor).evaluated s.setup.conveyor = d at *
    subst ht
    exact ⟨rfl, hsense, hv.mode, htruck.truck, hv.housing, fun hm => hfollows.command_stop (hv.mode.trans hm), hfollows⟩

/-- A limit switch changes (R127). -/
theorem Lone.limit {d : Side} {w : LimitSwitch} {k : SwitchInput} (h : Lone s t active k)
    (hk : ∀ (u : State) (a was : Bool), takeChange u { input := k, active := a, wasActive := was } = limitChange u d w a) :
    (active k = false → t = setLeg { s with inputs := t.inputs } d (setLimit (legOf s d) w false)) ∧
    (active k = true → LineInv s → t = State.occurred
      (setLeg { s with inputs := t.inputs } d (((legOf s d).cut (towardLimit w (legOf s d).output)).atLimit w))
      .legLimit s.travel.station (.legLimit d w (legOf s d).mode (towardLimit w (legOf s d).output))) := by
  have htaken := h.taken
  rw [hk] at htaken
  refine ⟨fun ha => ?_, fun ha hs => ?_⟩
  · rw [ha, limitChange_released] at htaken
    exact htaken
  · rw [ha, limitChange_reached (s := { s with inputs := t.inputs }) ⟨hs.1, hs.2.1, hs.2.2⟩] at htaken
    exact htaken

/-- A truck arrives, or backs out while it settles, or the change finds nothing to do (R143). -/
theorem Lone.presence (h : Lone s t active .presence) :
    t = presenceChange { s with inputs := t.inputs } (active .presence) := h.taken

end

/-- Settles O53: the filters by R153, and each change accepted alone by its receiver's rule. -/
theorem switchSampleFilters : Obligations.SwitchSampleFilters := by
  unfold Obligations.SwitchSampleFilters
  intro closed s n active hactive hn
  have hreads (k : SwitchInput) : readsActive k (closed.get k) = active k := (readsActive_eq k _).trans (hactive k).symm
  have hrun (k : SwitchInput) : nextRun (s.inputs.get k) (active k) = n k := by
    obtain ⟨hunknown, hon, hoff⟩ := nextRun_eq (f := s.inputs.get k) (a := active k)
    rw [hn k]
    cases hlevel : (s.inputs.get k).accepted with
    | unknown => exact hunknown hlevel
    | active => exact hon hlevel
    | inactive => exact hoff hlevel
  have hkept := SampleKept.takeChanges (s.setInputs (sampleInputs s.inputs closed)) (acceptedChanges s.inputs closed)
  have hlone {k : SwitchInput} (hk : 3 ≤ n k) (hj : ∀ j, j ≠ k → n j < 3) : Lone s (takeChanges
      (s.setInputs (sampleInputs s.inputs closed)) (acceptedChanges s.inputs closed)) active k :=
    lone_of_sample hreads hrun rfl hk hj
  have hidle (h : ∀ k, n k < 3) : takeChanges (s.setInputs (sampleInputs s.inputs closed))
      (acceptedChanges s.inputs closed) = s.setInputs (sampleInputs s.inputs closed) := by
    rw [acceptedChanges_none fun k => changeOf_none (by rw [hreads, hrun]; exact h k)]
    rfl
  have hexec : exec (.switchSample closed) s = .next (takeChanges (s.setInputs (sampleInputs s.inputs closed))
      (acceptedChanges s.inputs closed)) := rfl
  generalize takeChanges _ _ = t at hkept hlone hidle hexec
  refine ⟨t, hexec, fun k => ?_, hkept.travel, hkept.scanner, hkept.program, hkept.obstacles, hkept.grade, hkept.advance,
    hkept.supply, hkept.store, fun h => ?_, fun h ha hj => (hlone h hj).stopSense ha,
    fun h ha hj => (hlone h hj).stopRelease ha, ?_, fun h hj => ⟨fun ha htruck => ?_, fun ha htruck => ?_, fun hnone => ?_,
    fun k reason litres ha hs hk hreason hlitres => ?_⟩⟩
  · rw [hkept.inputs, State.setInputs_inputs, sampleInputs_get, filtered, filterSample_eq, hreads, hrun]
    rfl
  · rw [hkept.inputs]
    exact hidle h
  · rintro d w k l m reached released cut hk h hj rfl hcut hm hreached hreleased
    rw [← towardLimit_eq] at hcut
    have hlimit : ∀ (u : State) (a was : Bool),
        takeChange u { input := k, active := a, wasActive := was } = limitChange u d w a := by
      subst hk
      cases d <;> cases w <;> exact fun _ _ _ => rfl
    have hcutLeg : (legOf s d).cut cut = m := hm.symm
    have hreachedLeg : m.atLimit w = reached := by
      rw [hreached, Leg.atLimit, jogAtLimit_eq]
      cases w <;> rfl
    have hreleasedLeg : setLimit (legOf s d) w false = released := by
      rw [hreleased]
      cases w <;> rfl
    obtain ⟨hoff, hon⟩ := (hlone h hj).limit hlimit
    rw [← hcut, hcutLeg, hreachedLeg] at hon
    rw [hreleasedLeg] at hoff
    exact ⟨hoff, hon⟩
  all_goals have htaken := (hlone h hj).presence
  all_goals generalize t.inputs = fs at htaken ⊢
  · rw [ha, presenceChange_arrives (s := { s with inputs := fs }) htruck] at htaken
    exact arrived_state htaken
  · rw [ha, presenceChange_backsOut (s := { s with inputs := fs }) htruck] at htaken
    exact backedOut_state htaken
  · rw [presenceChange_none (s := { s with inputs := fs }) hnone] at htaken
    exact htaken
  · rw [ha, presenceChange_leaves (s := { s with inputs := fs }) hk hreason] at htaken
    exact departed_state htaken hs hlitres

end Sys2Proof.Machine
end
